-- ==== Sys2Proof/Word.lean ====
section
/-! DEFINITION. The two word types of the core (00_scope.md R7): 8-bit data and 16-bit registers and addresses. -/

namespace Sys2Proof

/-- A u8: register view, memory byte, opcode or operand byte (R7). -/
abbrev Byte := BitVec 8

/-- A u16: register pair, SP, PC, address (R7). -/
abbrev Word := BitVec 16

end Sys2Proof
end

