-- ==== Sys2Proof/Config.lean ====
section
/-! DEFINITION. What an implementation fixes: the parameters of 00_scope.md R6 (held in State as data), the Memory Unit
that is not the reference one (an uninterpreted constant), and the fixed values of R7, R44, R65 and R245. -/

namespace Sys2Proof

/-- P_INTERRUPT_DISPATCH (R6, R250): whether the core takes interrupts between instructions. -/
inductive DispatchMode where
  | off
  | sm83
  deriving DecidableEq, Repr

/-- P_SHORT_WRITE_ORDER (R6, R55): which byte of a WriteShort reaches the Memory Unit first. -/
inductive ShortWriteOrder where
  | lowFirst
  | highFirst
  deriving DecidableEq, Repr

/-- The call of the core that a byte write belongs to: a WriteByte, or one of the two byte writes of a WriteShort
(20_memory.md R51, R54). -/
inductive WriteCall where
  | byte
  | short
  deriving DecidableEq, Repr

/-- What reaches the Memory Unit: the core's requests, byte by byte (R51, R54, R62 to R64), and the host's loads (R294,
log entry 16). -/
inductive Request where
  | read (addr : Word)
  | write (call : WriteCall) (addr : Word) (v : Byte)
  | load (addr : Word) (bytes : List Byte)
  deriving DecidableEq, Repr

/-- How the Memory Unit behaves at an address (R50, R71, log entry 1): as RAM, as ROM (a core write changes nothing), or in a
way of its own (an I/O register, a banked window, a read or write side effect). -/
inductive RegionKind where
  | ram
  | rom
  | external
  deriving DecidableEq, Repr

/-- A region of the Memory Unit: `size` addresses from `base` on, not wrapping. No region at all is FlatRAM (R71). -/
structure Region where
  base : Word
  size : Nat
  kind : RegionKind
  deriving DecidableEq, Repr

/-- The parameters of R6 other than P_IRQ. No step changes them (log entry 3). -/
structure Params where
  /-- P_MEM: the map of the Memory Unit; an external region answers by `Config.memoryUnit` (log entry 1) -/
  memoryMap : List Region
  /-- P_INTERRUPT_DISPATCH -/
  dispatch : DispatchMode
  /-- P_IEIF_MAPPED -/
  ieIfMapped : Bool
  /-- P_UNIMPLEMENTED, a set of primary opcodes given as a list; only membership is read -/
  unimplemented : List Byte
  /-- P_SHORT_WRITE_ORDER -/
  shortWriteOrder : ShortWriteOrder
  /-- P_HALT_BUG -/
  haltBug : Bool
  deriving DecidableEq, Repr

/-- The defaults of R6. -/
def Params.defaults : Params where
  memoryMap := []
  dispatch := .off
  ieIfMapped := false
  unimplemented := []
  shortWriteOrder := .lowFirst
  haltBug := false

namespace Config

/-- P_MEM where it is not RAM or ROM (R6, R51, U13): what ReadByte of an address answers, after everything that has reached
the unit so far. Uninterpreted: any Memory Unit at all, with any contents and any side effect of its reads and
writes, is one such function (log entry 1). -/
opaque memoryUnit : List Request → Word → Byte
/-- Power-up AF (R44). -/
def powerUpAF : Word := 0x01B0
/-- AF after Reset: the power-up value with Z cleared (R47). -/
def resetAF : Word := 0x0130
/-- Power-up BC (R44). -/
def powerUpBC : Word := 0x0013
/-- Power-up DE (R44). -/
def powerUpDE : Word := 0x00D8
/-- Power-up HL (R44, conflict C1). -/
def powerUpHL : Word := 0x014D
/-- Power-up SP (R44). -/
def powerUpSP : Word := 0xFFFE
/-- Power-up PC, the entry point (R44, R65, R293). -/
def powerUpPC : Word := 0x0100
/-- The first byte of the I/O page (R59). -/
def ioPage : Word := 0xFF00
/-- Where IE is reached when P_IEIF_MAPPED is true (R66). -/
def ieAddress : Word := 0xFFFF
/-- Where IF is reached when P_IEIF_MAPPED is true (R66). -/
def ifAddress : Word := 0xFF0F
/-- The five bits of IE and IF that take part in poll, wake and dispatch (R34, D43). -/
def irqMask : Byte := 0x1F
/-- What IF[7:5] read as when mapped (R66). -/
def ifHighBits : Byte := 0xE0

end Config

end Sys2Proof
end

