-- ==== Sys2Proof/Syntax.lean ====
section
/-! DEFINITION. The instructions as data: `Instr`, one constructor per row of spec/opcode_table.json, and the operand
codes and forms of 30_encoding.md. -/

namespace Sys2Proof

/-- The seven 8-bit registers that a register code names (R79 codes 0 to 5 and 7). -/
inductive Reg8 where
  | b | c | d | e | h | l | a
  deriving DecidableEq, Repr

/-- What a 3-bit register code names: a register, or the byte in memory at HL, code 6 (R79). -/
inductive Loc8 where
  | reg (r : Reg8)
  | atHl
  deriving DecidableEq, Repr

/-- `r16sp`: the pair code of LD rr,d16, INC rr, DEC rr and ADD HL,rr (R81). -/
inductive Pair where
  | bc | de | hl | sp
  deriving DecidableEq, Repr

/-- `r16af`: the pair code of PUSH and POP (R82). -/
inductive StackPair where
  | bc | de | hl | af
  deriving DecidableEq, Repr

/-- The two pairs other than HL that point at a byte for A (R105 to R108). -/
inductive PtrPair where
  | bc | de
  deriving DecidableEq, Repr

/-- `cond`: the conditions of JR cc, JP cc, CALL cc and RET cc (R83). -/
inductive Cond where
  | nz | z | nc | c
  deriving DecidableEq, Repr

/-- `alu_op` (R84). -/
inductive AluOp where
  | add | adc | sub | sbc | and | xor | or | cp
  deriving DecidableEq, Repr

/-- The CB operations of group 00 (R87). -/
inductive ShiftOp where
  | rlc | rrc | rl | rr | sla | sra | swap | srl
  deriving DecidableEq, Repr

/-- An instruction by its shape and its fields: the regular groups of R85 and R87 and the single opcodes.
`Instr.form` (Decode.lean) gives the form of each row. -/
inductive Form where
  | nop | halt | di | ei | daa | cpl | scf | ccf | rlca | rrca | rla | rra | ret | reti | jpHl | ldSpHl
  | stAccHighC | ldAccHighC | stAccHlInc | stAccHlDec | ldAccHlInc | ldAccHlDec
  | stop (n : Byte)
  | ldRegReg (dst src : Reg8)
  | ldRegImm (dst : Reg8) (n : Byte)
  | ldRegMem (dst : Reg8)
  | ldMemReg (src : Reg8)
  | ldMemImm (n : Byte)
  | ldAccPtr (p : PtrPair)
  | stAccPtr (p : PtrPair)
  | ldAccAbs (nn : Word)
  | stAccAbs (nn : Word)
  | stAccHigh (n : Byte)
  | ldAccHigh (n : Byte)
  | ldPairImm (rr : Pair) (nn : Word)
  | stSpAbs (nn : Word)
  | push (rr : StackPair)
  | pop (rr : StackPair)
  | aluReg (op : AluOp) (src : Loc8)
  | aluImm (op : AluOp) (n : Byte)
  | inc8 (dst : Loc8)
  | dec8 (dst : Loc8)
  | addHl (rr : Pair)
  | inc16 (rr : Pair)
  | dec16 (rr : Pair)
  | addSp (n : Byte)
  | ldHlSp (n : Byte)
  | shift (op : ShiftOp) (dst : Loc8)
  | bit (b : BitVec 3) (src : Loc8)
  | res (b : BitVec 3) (dst : Loc8)
  | set (b : BitVec 3) (dst : Loc8)
  | jp (nn : Word)
  | jpCond (cc : Cond) (nn : Word)
  | jr (n : Byte)
  | jrCond (cc : Cond) (n : Byte)
  | call (nn : Word)
  | callCond (cc : Cond) (nn : Word)
  | retCond (cc : Cond)
  | rst (t : BitVec 3)
  | prefixCb (n : Byte)
  | unknown (opcode : Byte)
  deriving DecidableEq, Repr

/-- One constructor per row of spec/opcode_table.json: first the rows with operand bytes, in the table's order, then the
others (the compiler admits no constructor with fields after the 244th). The 11 UNKNOWN rows are the 11 opcodes of R88. `n` is the operand byte and `nn` the little-endian
operand word of R77. -/
inductive Instr where
  /-- LD BC,d16 (0x01, R119) -/ | ldBcD16 (nn : Word)
  /-- LD B,d8 (0x06, R101) -/ | ldBD8 (n : Byte)
  /-- LD (a16),SP (0x08, R120) -/ | ldAtA16Sp (nn : Word)
  /-- LD C,d8 (0x0E, R101) -/ | ldCD8 (n : Byte)
  /-- STOP (0x10, R225) -/ | stop (n : Byte)
  /-- LD DE,d16 (0x11, R119) -/ | ldDeD16 (nn : Word)
  /-- LD D,d8 (0x16, R101) -/ | ldDD8 (n : Byte)
  /-- JR e8 (0x18, R204) -/ | jrE8 (n : Byte)
  /-- LD E,d8 (0x1E, R101) -/ | ldED8 (n : Byte)
  /-- JR NZ,e8 (0x20, R205) -/ | jrNzE8 (n : Byte)
  /-- LD HL,d16 (0x21, R119) -/ | ldHlD16 (nn : Word)
  /-- LD H,d8 (0x26, R101) -/ | ldHD8 (n : Byte)
  /-- JR Z,e8 (0x28, R205) -/ | jrZE8 (n : Byte)
  /-- LD L,d8 (0x2E, R101) -/ | ldLD8 (n : Byte)
  /-- JR NC,e8 (0x30, R205) -/ | jrNcE8 (n : Byte)
  /-- LD SP,d16 (0x31, R119) -/ | ldSpD16 (nn : Word)
  /-- LD (HL),d8 (0x36, R104) -/ | ldAtHlD8 (n : Byte)
  /-- JR C,e8 (0x38, R205) -/ | jrCE8 (n : Byte)
  /-- LD A,d8 (0x3E, R101) -/ | ldAD8 (n : Byte)
  /-- JP NZ,a16 (0xC2, R202) -/ | jpNzA16 (nn : Word)
  /-- JP a16 (0xC3, R201) -/ | jpA16 (nn : Word)
  /-- CALL NZ,a16 (0xC4, R207) -/ | callNzA16 (nn : Word)
  /-- ADD A,d8 (0xC6, R141) -/ | addAD8 (n : Byte)
  /-- JP Z,a16 (0xCA, R202) -/ | jpZA16 (nn : Word)
  /-- PREFIX CB (0xCB, R228) -/ | prefixCb (n : Byte)
  /-- CALL Z,a16 (0xCC, R207) -/ | callZA16 (nn : Word)
  /-- CALL a16 (0xCD, R206) -/ | callA16 (nn : Word)
  /-- ADC A,d8 (0xCE, R143) -/ | adcAD8 (n : Byte)
  /-- JP NC,a16 (0xD2, R202) -/ | jpNcA16 (nn : Word)
  /-- CALL NC,a16 (0xD4, R207) -/ | callNcA16 (nn : Word)
  /-- SUB d8 (0xD6, R145) -/ | subD8 (n : Byte)
  /-- JP C,a16 (0xDA, R202) -/ | jpCA16 (nn : Word)
  /-- CALL C,a16 (0xDC, R207) -/ | callCA16 (nn : Word)
  /-- SBC A,d8 (0xDE, R147) -/ | sbcAD8 (n : Byte)
  /-- LDH (a8),A (0xE0, R111) -/ | ldhAtA8A (n : Byte)
  /-- AND d8 (0xE6, R149) -/ | andD8 (n : Byte)
  /-- ADD SP,e8 (0xE8, R171) -/ | addSpE8 (n : Byte)
  /-- LD (a16),A (0xEA, R110) -/ | ldAtA16A (nn : Word)
  /-- XOR d8 (0xEE, R151) -/ | xorD8 (n : Byte)
  /-- LDH A,(a8) (0xF0, R112) -/ | ldhAAtA8 (n : Byte)
  /-- OR d8 (0xF6, R153) -/ | orD8 (n : Byte)
  /-- LD HL,SP+e8 (0xF8, R172) -/ | ldHlSpE8 (n : Byte)
  /-- LD A,(a16) (0xFA, R109) -/ | ldAAtA16 (nn : Word)
  /-- CP d8 (0xFE, R155) -/ | cpD8 (n : Byte)
  /-- NOP (0x00, R220) -/ | nop
  /-- LD (BC),A (0x02, R107) -/ | ldAtBcA
  /-- INC BC (0x03, R168) -/ | incBc
  /-- INC B (0x04, R156) -/ | incB
  /-- DEC B (0x05, R157) -/ | decB
  /-- RLCA (0x07, R173) -/ | rlca
  /-- ADD HL,BC (0x09, R167) -/ | addHlBc
  /-- LD A,(BC) (0x0A, R105) -/ | ldAAtBc
  /-- DEC BC (0x0B, R169) -/ | decBc
  /-- INC C (0x0C, R156) -/ | incC
  /-- DEC C (0x0D, R157) -/ | decC
  /-- RRCA (0x0F, R174) -/ | rrca
  /-- LD (DE),A (0x12, R108) -/ | ldAtDeA
  /-- INC DE (0x13, R168) -/ | incDe
  /-- INC D (0x14, R156) -/ | incD
  /-- DEC D (0x15, R157) -/ | decD
  /-- RLA (0x17, R175) -/ | rla
  /-- ADD HL,DE (0x19, R167) -/ | addHlDe
  /-- LD A,(DE) (0x1A, R106) -/ | ldAAtDe
  /-- DEC DE (0x1B, R169) -/ | decDe
  /-- INC E (0x1C, R156) -/ | incE
  /-- DEC E (0x1D, R157) -/ | decE
  /-- RRA (0x1F, R176) -/ | rra
  /-- LD (HL+),A (0x22, R115) -/ | ldAtHlIncA
  /-- INC HL (0x23, R168) -/ | incHl
  /-- INC H (0x24, R156) -/ | incH
  /-- DEC H (0x25, R157) -/ | decH
  /-- DAA (0x27, R158) -/ | daa
  /-- ADD HL,HL (0x29, R167) -/ | addHlHl
  /-- LD A,(HL+) (0x2A, R117) -/ | ldAAtHlInc
  /-- DEC HL (0x2B, R169) -/ | decHl
  /-- INC L (0x2C, R156) -/ | incL
  /-- DEC L (0x2D, R157) -/ | decL
  /-- CPL (0x2F, R159) -/ | cpl
  /-- LD (HL-),A (0x32, R116) -/ | ldAtHlDecA
  /-- INC SP (0x33, R168) -/ | incSp
  /-- INC (HL) (0x34, R156) -/ | incAtHl
  /-- DEC (HL) (0x35, R157) -/ | decAtHl
  /-- SCF (0x37, R160) -/ | scf
  /-- ADD HL,SP (0x39, R167) -/ | addHlSp
  /-- LD A,(HL-) (0x3A, R118) -/ | ldAAtHlDec
  /-- DEC SP (0x3B, R169) -/ | decSp
  /-- INC A (0x3C, R156) -/ | incA
  /-- DEC A (0x3D, R157) -/ | decA
  /-- CCF (0x3F, R161) -/ | ccf
  /-- LD B,B (0x40, R100) -/ | ldBB
  /-- LD B,C (0x41, R100) -/ | ldBC
  /-- LD B,D (0x42, R100) -/ | ldBD
  /-- LD B,E (0x43, R100) -/ | ldBE
  /-- LD B,H (0x44, R100) -/ | ldBH
  /-- LD B,L (0x45, R100) -/ | ldBL
  /-- LD B,(HL) (0x46, R102) -/ | ldBAtHl
  /-- LD B,A (0x47, R100) -/ | ldBA
  /-- LD C,B (0x48, R100) -/ | ldCB
  /-- LD C,C (0x49, R100) -/ | ldCC
  /-- LD C,D (0x4A, R100) -/ | ldCD
  /-- LD C,E (0x4B, R100) -/ | ldCE
  /-- LD C,H (0x4C, R100) -/ | ldCH
  /-- LD C,L (0x4D, R100) -/ | ldCL
  /-- LD C,(HL) (0x4E, R102) -/ | ldCAtHl
  /-- LD C,A (0x4F, R100) -/ | ldCA
  /-- LD D,B (0x50, R100) -/ | ldDB
  /-- LD D,C (0x51, R100) -/ | ldDC
  /-- LD D,D (0x52, R100) -/ | ldDD
  /-- LD D,E (0x53, R100) -/ | ldDE
  /-- LD D,H (0x54, R100) -/ | ldDH
  /-- LD D,L (0x55, R100) -/ | ldDL
  /-- LD D,(HL) (0x56, R102) -/ | ldDAtHl
  /-- LD D,A (0x57, R100) -/ | ldDA
  /-- LD E,B (0x58, R100) -/ | ldEB
  /-- LD E,C (0x59, R100) -/ | ldEC
  /-- LD E,D (0x5A, R100) -/ | ldED
  /-- LD E,E (0x5B, R100) -/ | ldEE
  /-- LD E,H (0x5C, R100) -/ | ldEH
  /-- LD E,L (0x5D, R100) -/ | ldEL
  /-- LD E,(HL) (0x5E, R102) -/ | ldEAtHl
  /-- LD E,A (0x5F, R100) -/ | ldEA
  /-- LD H,B (0x60, R100) -/ | ldHB
  /-- LD H,C (0x61, R100) -/ | ldHC
  /-- LD H,D (0x62, R100) -/ | ldHD
  /-- LD H,E (0x63, R100) -/ | ldHE
  /-- LD H,H (0x64, R100) -/ | ldHH
  /-- LD H,L (0x65, R100) -/ | ldHL
  /-- LD H,(HL) (0x66, R102) -/ | ldHAtHl
  /-- LD H,A (0x67, R100) -/ | ldHA
  /-- LD L,B (0x68, R100) -/ | ldLB
  /-- LD L,C (0x69, R100) -/ | ldLC
  /-- LD L,D (0x6A, R100) -/ | ldLD
  /-- LD L,E (0x6B, R100) -/ | ldLE
  /-- LD L,H (0x6C, R100) -/ | ldLH
  /-- LD L,L (0x6D, R100) -/ | ldLL
  /-- LD L,(HL) (0x6E, R102) -/ | ldLAtHl
  /-- LD L,A (0x6F, R100) -/ | ldLA
  /-- LD (HL),B (0x70, R103) -/ | ldAtHlB
  /-- LD (HL),C (0x71, R103) -/ | ldAtHlC
  /-- LD (HL),D (0x72, R103) -/ | ldAtHlD
  /-- LD (HL),E (0x73, R103) -/ | ldAtHlE
  /-- LD (HL),H (0x74, R103) -/ | ldAtHlH
  /-- LD (HL),L (0x75, R103) -/ | ldAtHlL
  /-- HALT (0x76, R221) -/ | halt
  /-- LD (HL),A (0x77, R103) -/ | ldAtHlA
  /-- LD A,B (0x78, R100) -/ | ldAB
  /-- LD A,C (0x79, R100) -/ | ldAC
  /-- LD A,D (0x7A, R100) -/ | ldAD
  /-- LD A,E (0x7B, R100) -/ | ldAE
  /-- LD A,H (0x7C, R100) -/ | ldAH
  /-- LD A,L (0x7D, R100) -/ | ldAL
  /-- LD A,(HL) (0x7E, R102) -/ | ldAAtHl
  /-- LD A,A (0x7F, R100) -/ | ldAA
  /-- ADD A,B (0x80, R140) -/ | addAB
  /-- ADD A,C (0x81, R140) -/ | addAC
  /-- ADD A,D (0x82, R140) -/ | addAD
  /-- ADD A,E (0x83, R140) -/ | addAE
  /-- ADD A,H (0x84, R140) -/ | addAH
  /-- ADD A,L (0x85, R140) -/ | addAL
  /-- ADD A,(HL) (0x86, R140) -/ | addAAtHl
  /-- ADD A,A (0x87, R140) -/ | addAA
  /-- ADC A,B (0x88, R142) -/ | adcAB
  /-- ADC A,C (0x89, R142) -/ | adcAC
  /-- ADC A,D (0x8A, R142) -/ | adcAD
  /-- ADC A,E (0x8B, R142) -/ | adcAE
  /-- ADC A,H (0x8C, R142) -/ | adcAH
  /-- ADC A,L (0x8D, R142) -/ | adcAL
  /-- ADC A,(HL) (0x8E, R142) -/ | adcAAtHl
  /-- ADC A,A (0x8F, R142) -/ | adcAA
  /-- SUB B (0x90, R144) -/ | subB
  /-- SUB C (0x91, R144) -/ | subC
  /-- SUB D (0x92, R144) -/ | subD
  /-- SUB E (0x93, R144) -/ | subE
  /-- SUB H (0x94, R144) -/ | subH
  /-- SUB L (0x95, R144) -/ | subL
  /-- SUB (HL) (0x96, R144) -/ | subAtHl
  /-- SUB A (0x97, R144) -/ | subA
  /-- SBC A,B (0x98, R146) -/ | sbcAB
  /-- SBC A,C (0x99, R146) -/ | sbcAC
  /-- SBC A,D (0x9A, R146) -/ | sbcAD
  /-- SBC A,E (0x9B, R146) -/ | sbcAE
  /-- SBC A,H (0x9C, R146) -/ | sbcAH
  /-- SBC A,L (0x9D, R146) -/ | sbcAL
  /-- SBC A,(HL) (0x9E, R146) -/ | sbcAAtHl
  /-- SBC A,A (0x9F, R146) -/ | sbcAA
  /-- AND B (0xA0, R148) -/ | andB
  /-- AND C (0xA1, R148) -/ | andC
  /-- AND D (0xA2, R148) -/ | andD
  /-- AND E (0xA3, R148) -/ | andE
  /-- AND H (0xA4, R148) -/ | andH
  /-- AND L (0xA5, R148) -/ | andL
  /-- AND (HL) (0xA6, R148) -/ | andAtHl
  /-- AND A (0xA7, R148) -/ | andA
  /-- XOR B (0xA8, R150) -/ | xorB
  /-- XOR C (0xA9, R150) -/ | xorC
  /-- XOR D (0xAA, R150) -/ | xorD
  /-- XOR E (0xAB, R150) -/ | xorE
  /-- XOR H (0xAC, R150) -/ | xorH
  /-- XOR L (0xAD, R150) -/ | xorL
  /-- XOR (HL) (0xAE, R150) -/ | xorAtHl
  /-- XOR A (0xAF, R150) -/ | xorA
  /-- OR B (0xB0, R152) -/ | orB
  /-- OR C (0xB1, R152) -/ | orC
  /-- OR D (0xB2, R152) -/ | orD
  /-- OR E (0xB3, R152) -/ | orE
  /-- OR H (0xB4, R152) -/ | orH
  /-- OR L (0xB5, R152) -/ | orL
  /-- OR (HL) (0xB6, R152) -/ | orAtHl
  /-- OR A (0xB7, R152) -/ | orA
  /-- CP B (0xB8, R154) -/ | cpB
  /-- CP C (0xB9, R154) -/ | cpC
  /-- CP D (0xBA, R154) -/ | cpD
  /-- CP E (0xBB, R154) -/ | cpE
  /-- CP H (0xBC, R154) -/ | cpH
  /-- CP L (0xBD, R154) -/ | cpL
  /-- CP (HL) (0xBE, R154) -/ | cpAtHl
  /-- CP A (0xBF, R154) -/ | cpA
  /-- RET NZ (0xC0, R209) -/ | retNz
  /-- POP BC (0xC1, R123) -/ | popBc
  /-- PUSH BC (0xC5, R122) -/ | pushBc
  /-- RST 0x00 (0xC7, R211) -/ | rst00
  /-- RET Z (0xC8, R209) -/ | retZ
  /-- RET (0xC9, R208) -/ | ret
  /-- RST 0x08 (0xCF, R211) -/ | rst08
  /-- RET NC (0xD0, R209) -/ | retNc
  /-- POP DE (0xD1, R123) -/ | popDe
  /-- UNKNOWN (0xD3, R235) -/ | unknownD3
  /-- PUSH DE (0xD5, R122) -/ | pushDe
  /-- RST 0x10 (0xD7, R211) -/ | rst10
  /-- RET C (0xD8, R209) -/ | retC
  /-- RETI (0xD9, R210) -/ | reti
  /-- UNKNOWN (0xDB, R235) -/ | unknownDB
  /-- UNKNOWN (0xDD, R235) -/ | unknownDD
  /-- RST 0x18 (0xDF, R211) -/ | rst18
  /-- POP HL (0xE1, R123) -/ | popHl
  /-- LD (C),A (0xE2, R113) -/ | ldAtCA
  /-- UNKNOWN (0xE3, R235) -/ | unknownE3
  /-- UNKNOWN (0xE4, R235) -/ | unknownE4
  /-- PUSH HL (0xE5, R122) -/ | pushHl
  /-- RST 0x20 (0xE7, R211) -/ | rst20
  /-- JP HL (0xE9, R203) -/ | jpHl
  /-- UNKNOWN (0xEB, R235) -/ | unknownEB
  /-- UNKNOWN (0xEC, R235) -/ | unknownEC
  /-- UNKNOWN (0xED, R235) -/ | unknownED
  /-- RST 0x28 (0xEF, R211) -/ | rst28
  /-- POP AF (0xF1, R124) -/ | popAf
  /-- LD A,(C) (0xF2, R114) -/ | ldAAtC
  /-- DI (0xF3, R226) -/ | di
  /-- UNKNOWN (0xF4, R235) -/ | unknownF4
  /-- PUSH AF (0xF5, R122) -/ | pushAf
  /-- RST 0x30 (0xF7, R211) -/ | rst30
  /-- LD SP,HL (0xF9, R121) -/ | ldSpHl
  /-- EI (0xFB, R227) -/ | ei
  /-- UNKNOWN (0xFC, R235) -/ | unknownFC
  /-- UNKNOWN (0xFD, R235) -/ | unknownFD
  /-- RST 0x38 (0xFF, R211) -/ | rst38
  /-- RLC B (0xCB 0x00, R178) -/ | rlcB
  /-- RLC C (0xCB 0x01, R178) -/ | rlcC
  /-- RLC D (0xCB 0x02, R178) -/ | rlcD
  /-- RLC E (0xCB 0x03, R178) -/ | rlcE
  /-- RLC H (0xCB 0x04, R178) -/ | rlcH
  /-- RLC L (0xCB 0x05, R178) -/ | rlcL
  /-- RLC (HL) (0xCB 0x06, R178) -/ | rlcAtHl
  /-- RLC A (0xCB 0x07, R178) -/ | rlcA
  /-- RRC B (0xCB 0x08, R179) -/ | rrcB
  /-- RRC C (0xCB 0x09, R179) -/ | rrcC
  /-- RRC D (0xCB 0x0A, R179) -/ | rrcD
  /-- RRC E (0xCB 0x0B, R179) -/ | rrcE
  /-- RRC H (0xCB 0x0C, R179) -/ | rrcH
  /-- RRC L (0xCB 0x0D, R179) -/ | rrcL
  /-- RRC (HL) (0xCB 0x0E, R179) -/ | rrcAtHl
  /-- RRC A (0xCB 0x0F, R179) -/ | rrcA
  /-- RL B (0xCB 0x10, R180) -/ | rlB
  /-- RL C (0xCB 0x11, R180) -/ | rlC
  /-- RL D (0xCB 0x12, R180) -/ | rlD
  /-- RL E (0xCB 0x13, R180) -/ | rlE
  /-- RL H (0xCB 0x14, R180) -/ | rlH
  /-- RL L (0xCB 0x15, R180) -/ | rlL
  /-- RL (HL) (0xCB 0x16, R180) -/ | rlAtHl
  /-- RL A (0xCB 0x17, R180) -/ | rlA
  /-- RR B (0xCB 0x18, R181) -/ | rrB
  /-- RR C (0xCB 0x19, R181) -/ | rrC
  /-- RR D (0xCB 0x1A, R181) -/ | rrD
  /-- RR E (0xCB 0x1B, R181) -/ | rrE
  /-- RR H (0xCB 0x1C, R181) -/ | rrH
  /-- RR L (0xCB 0x1D, R181) -/ | rrL
  /-- RR (HL) (0xCB 0x1E, R181) -/ | rrAtHl
  /-- RR A (0xCB 0x1F, R181) -/ | rrA
  /-- SLA B (0xCB 0x20, R182) -/ | slaB
  /-- SLA C (0xCB 0x21, R182) -/ | slaC
  /-- SLA D (0xCB 0x22, R182) -/ | slaD
  /-- SLA E (0xCB 0x23, R182) -/ | slaE
  /-- SLA H (0xCB 0x24, R182) -/ | slaH
  /-- SLA L (0xCB 0x25, R182) -/ | slaL
  /-- SLA (HL) (0xCB 0x26, R182) -/ | slaAtHl
  /-- SLA A (0xCB 0x27, R182) -/ | slaA
  /-- SRA B (0xCB 0x28, R183) -/ | sraB
  /-- SRA C (0xCB 0x29, R183) -/ | sraC
  /-- SRA D (0xCB 0x2A, R183) -/ | sraD
  /-- SRA E (0xCB 0x2B, R183) -/ | sraE
  /-- SRA H (0xCB 0x2C, R183) -/ | sraH
  /-- SRA L (0xCB 0x2D, R183) -/ | sraL
  /-- SRA (HL) (0xCB 0x2E, R183) -/ | sraAtHl
  /-- SRA A (0xCB 0x2F, R183) -/ | sraA
  /-- SWAP B (0xCB 0x30, R184) -/ | swapB
  /-- SWAP C (0xCB 0x31, R184) -/ | swapC
  /-- SWAP D (0xCB 0x32, R184) -/ | swapD
  /-- SWAP E (0xCB 0x33, R184) -/ | swapE
  /-- SWAP H (0xCB 0x34, R184) -/ | swapH
  /-- SWAP L (0xCB 0x35, R184) -/ | swapL
  /-- SWAP (HL) (0xCB 0x36, R184) -/ | swapAtHl
  /-- SWAP A (0xCB 0x37, R184) -/ | swapA
  /-- SRL B (0xCB 0x38, R185) -/ | srlB
  /-- SRL C (0xCB 0x39, R185) -/ | srlC
  /-- SRL D (0xCB 0x3A, R185) -/ | srlD
  /-- SRL E (0xCB 0x3B, R185) -/ | srlE
  /-- SRL H (0xCB 0x3C, R185) -/ | srlH
  /-- SRL L (0xCB 0x3D, R185) -/ | srlL
  /-- SRL (HL) (0xCB 0x3E, R185) -/ | srlAtHl
  /-- SRL A (0xCB 0x3F, R185) -/ | srlA
  /-- BIT 0,B (0xCB 0x40, R190) -/ | bit0B
  /-- BIT 0,C (0xCB 0x41, R190) -/ | bit0C
  /-- BIT 0,D (0xCB 0x42, R190) -/ | bit0D
  /-- BIT 0,E (0xCB 0x43, R190) -/ | bit0E
  /-- BIT 0,H (0xCB 0x44, R190) -/ | bit0H
  /-- BIT 0,L (0xCB 0x45, R190) -/ | bit0L
  /-- BIT 0,(HL) (0xCB 0x46, R190) -/ | bit0AtHl
  /-- BIT 0,A (0xCB 0x47, R190) -/ | bit0A
  /-- BIT 1,B (0xCB 0x48, R190) -/ | bit1B
  /-- BIT 1,C (0xCB 0x49, R190) -/ | bit1C
  /-- BIT 1,D (0xCB 0x4A, R190) -/ | bit1D
  /-- BIT 1,E (0xCB 0x4B, R190) -/ | bit1E
  /-- BIT 1,H (0xCB 0x4C, R190) -/ | bit1H
  /-- BIT 1,L (0xCB 0x4D, R190) -/ | bit1L
  /-- BIT 1,(HL) (0xCB 0x4E, R190) -/ | bit1AtHl
  /-- BIT 1,A (0xCB 0x4F, R190) -/ | bit1A
  /-- BIT 2,B (0xCB 0x50, R190) -/ | bit2B
  /-- BIT 2,C (0xCB 0x51, R190) -/ | bit2C
  /-- BIT 2,D (0xCB 0x52, R190) -/ | bit2D
  /-- BIT 2,E (0xCB 0x53, R190) -/ | bit2E
  /-- BIT 2,H (0xCB 0x54, R190) -/ | bit2H
  /-- BIT 2,L (0xCB 0x55, R190) -/ | bit2L
  /-- BIT 2,(HL) (0xCB 0x56, R190) -/ | bit2AtHl
  /-- BIT 2,A (0xCB 0x57, R190) -/ | bit2A
  /-- BIT 3,B (0xCB 0x58, R190) -/ | bit3B
  /-- BIT 3,C (0xCB 0x59, R190) -/ | bit3C
  /-- BIT 3,D (0xCB 0x5A, R190) -/ | bit3D
  /-- BIT 3,E (0xCB 0x5B, R190) -/ | bit3E
  /-- BIT 3,H (0xCB 0x5C, R190) -/ | bit3H
  /-- BIT 3,L (0xCB 0x5D, R190) -/ | bit3L
  /-- BIT 3,(HL) (0xCB 0x5E, R190) -/ | bit3AtHl
  /-- BIT 3,A (0xCB 0x5F, R190) -/ | bit3A
  /-- BIT 4,B (0xCB 0x60, R190) -/ | bit4B
  /-- BIT 4,C (0xCB 0x61, R190) -/ | bit4C
  /-- BIT 4,D (0xCB 0x62, R190) -/ | bit4D
  /-- BIT 4,E (0xCB 0x63, R190) -/ | bit4E
  /-- BIT 4,H (0xCB 0x64, R190) -/ | bit4H
  /-- BIT 4,L (0xCB 0x65, R190) -/ | bit4L
  /-- BIT 4,(HL) (0xCB 0x66, R190) -/ | bit4AtHl
  /-- BIT 4,A (0xCB 0x67, R190) -/ | bit4A
  /-- BIT 5,B (0xCB 0x68, R190) -/ | bit5B
  /-- BIT 5,C (0xCB 0x69, R190) -/ | bit5C
  /-- BIT 5,D (0xCB 0x6A, R190) -/ | bit5D
  /-- BIT 5,E (0xCB 0x6B, R190) -/ | bit5E
  /-- BIT 5,H (0xCB 0x6C, R190) -/ | bit5H
  /-- BIT 5,L (0xCB 0x6D, R190) -/ | bit5L
  /-- BIT 5,(HL) (0xCB 0x6E, R190) -/ | bit5AtHl
  /-- BIT 5,A (0xCB 0x6F, R190) -/ | bit5A
  /-- BIT 6,B (0xCB 0x70, R190) -/ | bit6B
  /-- BIT 6,C (0xCB 0x71, R190) -/ | bit6C
  /-- BIT 6,D (0xCB 0x72, R190) -/ | bit6D
  /-- BIT 6,E (0xCB 0x73, R190) -/ | bit6E
  /-- BIT 6,H (0xCB 0x74, R190) -/ | bit6H
  /-- BIT 6,L (0xCB 0x75, R190) -/ | bit6L
  /-- BIT 6,(HL) (0xCB 0x76, R190) -/ | bit6AtHl
  /-- BIT 6,A (0xCB 0x77, R190) -/ | bit6A
  /-- BIT 7,B (0xCB 0x78, R190) -/ | bit7B
  /-- BIT 7,C (0xCB 0x79, R190) -/ | bit7C
  /-- BIT 7,D (0xCB 0x7A, R190) -/ | bit7D
  /-- BIT 7,E (0xCB 0x7B, R190) -/ | bit7E
  /-- BIT 7,H (0xCB 0x7C, R190) -/ | bit7H
  /-- BIT 7,L (0xCB 0x7D, R190) -/ | bit7L
  /-- BIT 7,(HL) (0xCB 0x7E, R190) -/ | bit7AtHl
  /-- BIT 7,A (0xCB 0x7F, R190) -/ | bit7A
  /-- RES 0,B (0xCB 0x80, R191) -/ | res0B
  /-- RES 0,C (0xCB 0x81, R191) -/ | res0C
  /-- RES 0,D (0xCB 0x82, R191) -/ | res0D
  /-- RES 0,E (0xCB 0x83, R191) -/ | res0E
  /-- RES 0,H (0xCB 0x84, R191) -/ | res0H
  /-- RES 0,L (0xCB 0x85, R191) -/ | res0L
  /-- RES 0,(HL) (0xCB 0x86, R191) -/ | res0AtHl
  /-- RES 0,A (0xCB 0x87, R191) -/ | res0A
  /-- RES 1,B (0xCB 0x88, R191) -/ | res1B
  /-- RES 1,C (0xCB 0x89, R191) -/ | res1C
  /-- RES 1,D (0xCB 0x8A, R191) -/ | res1D
  /-- RES 1,E (0xCB 0x8B, R191) -/ | res1E
  /-- RES 1,H (0xCB 0x8C, R191) -/ | res1H
  /-- RES 1,L (0xCB 0x8D, R191) -/ | res1L
  /-- RES 1,(HL) (0xCB 0x8E, R191) -/ | res1AtHl
  /-- RES 1,A (0xCB 0x8F, R191) -/ | res1A
  /-- RES 2,B (0xCB 0x90, R191) -/ | res2B
  /-- RES 2,C (0xCB 0x91, R191) -/ | res2C
  /-- RES 2,D (0xCB 0x92, R191) -/ | res2D
  /-- RES 2,E (0xCB 0x93, R191) -/ | res2E
  /-- RES 2,H (0xCB 0x94, R191) -/ | res2H
  /-- RES 2,L (0xCB 0x95, R191) -/ | res2L
  /-- RES 2,(HL) (0xCB 0x96, R191) -/ | res2AtHl
  /-- RES 2,A (0xCB 0x97, R191) -/ | res2A
  /-- RES 3,B (0xCB 0x98, R191) -/ | res3B
  /-- RES 3,C (0xCB 0x99, R191) -/ | res3C
  /-- RES 3,D (0xCB 0x9A, R191) -/ | res3D
  /-- RES 3,E (0xCB 0x9B, R191) -/ | res3E
  /-- RES 3,H (0xCB 0x9C, R191) -/ | res3H
  /-- RES 3,L (0xCB 0x9D, R191) -/ | res3L
  /-- RES 3,(HL) (0xCB 0x9E, R191) -/ | res3AtHl
  /-- RES 3,A (0xCB 0x9F, R191) -/ | res3A
  /-- RES 4,B (0xCB 0xA0, R191) -/ | res4B
  /-- RES 4,C (0xCB 0xA1, R191) -/ | res4C
  /-- RES 4,D (0xCB 0xA2, R191) -/ | res4D
  /-- RES 4,E (0xCB 0xA3, R191) -/ | res4E
  /-- RES 4,H (0xCB 0xA4, R191) -/ | res4H
  /-- RES 4,L (0xCB 0xA5, R191) -/ | res4L
  /-- RES 4,(HL) (0xCB 0xA6, R191) -/ | res4AtHl
  /-- RES 4,A (0xCB 0xA7, R191) -/ | res4A
  /-- RES 5,B (0xCB 0xA8, R191) -/ | res5B
  /-- RES 5,C (0xCB 0xA9, R191) -/ | res5C
  /-- RES 5,D (0xCB 0xAA, R191) -/ | res5D
  /-- RES 5,E (0xCB 0xAB, R191) -/ | res5E
  /-- RES 5,H (0xCB 0xAC, R191) -/ | res5H
  /-- RES 5,L (0xCB 0xAD, R191) -/ | res5L
  /-- RES 5,(HL) (0xCB 0xAE, R191) -/ | res5AtHl
  /-- RES 5,A (0xCB 0xAF, R191) -/ | res5A
  /-- RES 6,B (0xCB 0xB0, R191) -/ | res6B
  /-- RES 6,C (0xCB 0xB1, R191) -/ | res6C
  /-- RES 6,D (0xCB 0xB2, R191) -/ | res6D
  /-- RES 6,E (0xCB 0xB3, R191) -/ | res6E
  /-- RES 6,H (0xCB 0xB4, R191) -/ | res6H
  /-- RES 6,L (0xCB 0xB5, R191) -/ | res6L
  /-- RES 6,(HL) (0xCB 0xB6, R191) -/ | res6AtHl
  /-- RES 6,A (0xCB 0xB7, R191) -/ | res6A
  /-- RES 7,B (0xCB 0xB8, R191) -/ | res7B
  /-- RES 7,C (0xCB 0xB9, R191) -/ | res7C
  /-- RES 7,D (0xCB 0xBA, R191) -/ | res7D
  /-- RES 7,E (0xCB 0xBB, R191) -/ | res7E
  /-- RES 7,H (0xCB 0xBC, R191) -/ | res7H
  /-- RES 7,L (0xCB 0xBD, R191) -/ | res7L
  /-- RES 7,(HL) (0xCB 0xBE, R191) -/ | res7AtHl
  /-- RES 7,A (0xCB 0xBF, R191) -/ | res7A
  /-- SET 0,B (0xCB 0xC0, R192) -/ | set0B
  /-- SET 0,C (0xCB 0xC1, R192) -/ | set0C
  /-- SET 0,D (0xCB 0xC2, R192) -/ | set0D
  /-- SET 0,E (0xCB 0xC3, R192) -/ | set0E
  /-- SET 0,H (0xCB 0xC4, R192) -/ | set0H
  /-- SET 0,L (0xCB 0xC5, R192) -/ | set0L
  /-- SET 0,(HL) (0xCB 0xC6, R192) -/ | set0AtHl
  /-- SET 0,A (0xCB 0xC7, R192) -/ | set0A
  /-- SET 1,B (0xCB 0xC8, R192) -/ | set1B
  /-- SET 1,C (0xCB 0xC9, R192) -/ | set1C
  /-- SET 1,D (0xCB 0xCA, R192) -/ | set1D
  /-- SET 1,E (0xCB 0xCB, R192) -/ | set1E
  /-- SET 1,H (0xCB 0xCC, R192) -/ | set1H
  /-- SET 1,L (0xCB 0xCD, R192) -/ | set1L
  /-- SET 1,(HL) (0xCB 0xCE, R192) -/ | set1AtHl
  /-- SET 1,A (0xCB 0xCF, R192) -/ | set1A
  /-- SET 2,B (0xCB 0xD0, R192) -/ | set2B
  /-- SET 2,C (0xCB 0xD1, R192) -/ | set2C
  /-- SET 2,D (0xCB 0xD2, R192) -/ | set2D
  /-- SET 2,E (0xCB 0xD3, R192) -/ | set2E
  /-- SET 2,H (0xCB 0xD4, R192) -/ | set2H
  /-- SET 2,L (0xCB 0xD5, R192) -/ | set2L
  /-- SET 2,(HL) (0xCB 0xD6, R192) -/ | set2AtHl
  /-- SET 2,A (0xCB 0xD7, R192) -/ | set2A
  /-- SET 3,B (0xCB 0xD8, R192) -/ | set3B
  /-- SET 3,C (0xCB 0xD9, R192) -/ | set3C
  /-- SET 3,D (0xCB 0xDA, R192) -/ | set3D
  /-- SET 3,E (0xCB 0xDB, R192) -/ | set3E
  /-- SET 3,H (0xCB 0xDC, R192) -/ | set3H
  /-- SET 3,L (0xCB 0xDD, R192) -/ | set3L
  /-- SET 3,(HL) (0xCB 0xDE, R192) -/ | set3AtHl
  /-- SET 3,A (0xCB 0xDF, R192) -/ | set3A
  /-- SET 4,B (0xCB 0xE0, R192) -/ | set4B
  /-- SET 4,C (0xCB 0xE1, R192) -/ | set4C
  /-- SET 4,D (0xCB 0xE2, R192) -/ | set4D
  /-- SET 4,E (0xCB 0xE3, R192) -/ | set4E
  /-- SET 4,H (0xCB 0xE4, R192) -/ | set4H
  /-- SET 4,L (0xCB 0xE5, R192) -/ | set4L
  /-- SET 4,(HL) (0xCB 0xE6, R192) -/ | set4AtHl
  /-- SET 4,A (0xCB 0xE7, R192) -/ | set4A
  /-- SET 5,B (0xCB 0xE8, R192) -/ | set5B
  /-- SET 5,C (0xCB 0xE9, R192) -/ | set5C
  /-- SET 5,D (0xCB 0xEA, R192) -/ | set5D
  /-- SET 5,E (0xCB 0xEB, R192) -/ | set5E
  /-- SET 5,H (0xCB 0xEC, R192) -/ | set5H
  /-- SET 5,L (0xCB 0xED, R192) -/ | set5L
  /-- SET 5,(HL) (0xCB 0xEE, R192) -/ | set5AtHl
  /-- SET 5,A (0xCB 0xEF, R192) -/ | set5A
  /-- SET 6,B (0xCB 0xF0, R192) -/ | set6B
  /-- SET 6,C (0xCB 0xF1, R192) -/ | set6C
  /-- SET 6,D (0xCB 0xF2, R192) -/ | set6D
  /-- SET 6,E (0xCB 0xF3, R192) -/ | set6E
  /-- SET 6,H (0xCB 0xF4, R192) -/ | set6H
  /-- SET 6,L (0xCB 0xF5, R192) -/ | set6L
  /-- SET 6,(HL) (0xCB 0xF6, R192) -/ | set6AtHl
  /-- SET 6,A (0xCB 0xF7, R192) -/ | set6A
  /-- SET 7,B (0xCB 0xF8, R192) -/ | set7B
  /-- SET 7,C (0xCB 0xF9, R192) -/ | set7C
  /-- SET 7,D (0xCB 0xFA, R192) -/ | set7D
  /-- SET 7,E (0xCB 0xFB, R192) -/ | set7E
  /-- SET 7,H (0xCB 0xFC, R192) -/ | set7H
  /-- SET 7,L (0xCB 0xFD, R192) -/ | set7L
  /-- SET 7,(HL) (0xCB 0xFE, R192) -/ | set7AtHl
  /-- SET 7,A (0xCB 0xFF, R192) -/ | set7A
  deriving DecidableEq, Repr

end Sys2Proof
end

