-- ==== Sys2Proof/WellFormed.lean ====
section
/-! DEFINITION. Which terms of `Instr` stand for an instruction of their own. -/

namespace Sys2Proof

/-- Every term but PREFIX CB's: its words 0xCB n are the words of the CB rows, and the decoder reads them as those
(30_encoding.md R86, R87; log entry 9). Operand widths need no check: their types give them (R77). -/
def Instr.wellFormed (i : Instr) : Bool :=
  match i with
  | .prefixCb _ => false
  | _ => true

end Sys2Proof
end

