-- ==== Sys2Proof/Decode.lean ====
section
/-! DEFINITION. Bytes to instructions and back (30_encoding.md): byte-order and field helpers, the form of each row, the
primary opcode map (R85), the CB map (R87), the decoder, the encoder (from the bit patterns of R85 and R87, not from the
maps), the descriptor metadata (R92, R300) and the host's numbering of table words. -/

namespace Sys2Proof

/-- Bits 15:8 (R21, R24). -/
def hiByte (v : Word) : Byte := v.extractLsb' 8 8

/-- Bits 7:0 (R21, R24). -/
def loByte (v : Word) : Byte := v.extractLsb' 0 8

/-- A u16 from its high and low bytes (R8, R53). -/
def joinBytes (hi lo : Byte) : Word := hi ++ lo

/-- sext_16 (R9). -/
def sext16 (n : Byte) : Word := n.signExtend 16

/-- zext_16 (R9). -/
def zext16 (n : Byte) : Word := n.setWidth 16

/-- r8, codes 0 to 7 (R79). -/
def Loc8.ofCode (k : BitVec 3) : Loc8 :=
  match k.toNat with
  | 0 => .reg .b
  | 1 => .reg .c
  | 2 => .reg .d
  | 3 => .reg .e
  | 4 => .reg .h
  | 5 => .reg .l
  | 6 => .atHl
  | _ => .reg .a

/-- The register code of a register (R79). -/
def Reg8.code : Reg8 → BitVec 3
  | .b => 0
  | .c => 1
  | .d => 2
  | .e => 3
  | .h => 4
  | .l => 5
  | .a => 7

/-- The register code of an operand (R79). -/
def Loc8.code : Loc8 → BitVec 3
  | .reg r => r.code
  | .atHl => 6

/-- The r16sp code (R81). -/
def Pair.code : Pair → BitVec 2
  | .bc => 0
  | .de => 1
  | .hl => 2
  | .sp => 3

/-- The r16af code (R82). -/
def StackPair.code : StackPair → BitVec 2
  | .bc => 0
  | .de => 1
  | .hl => 2
  | .af => 3

/-- The cond code (R83). -/
def Cond.code : Cond → BitVec 2
  | .nz => 0
  | .z => 1
  | .nc => 2
  | .c => 3

/-- The alu_op code (R84). -/
def AluOp.code : AluOp → BitVec 3
  | .add => 0
  | .adc => 1
  | .sub => 2
  | .sbc => 3
  | .and => 4
  | .xor => 5
  | .or => 6
  | .cp => 7

/-- The operation field of CB group 00 (R87). -/
def ShiftOp.code : ShiftOp → BitVec 3
  | .rlc => 0
  | .rrc => 1
  | .rl => 2
  | .rr => 3
  | .sla => 4
  | .sra => 5
  | .swap => 6
  | .srl => 7

/-- The operation that a CB group 00 field names (R87). -/
def ShiftOp.ofCode (k : BitVec 3) : ShiftOp :=
  match k.toNat with
  | 0 => .rlc
  | 1 => .rrc
  | 2 => .rl
  | 3 => .rr
  | 4 => .sla
  | 5 => .sra
  | 6 => .swap
  | _ => .srl

/-- The form and the fields of each row: what `source_fields` of spec/opcode_table.json and R85, R87 say of it. -/
def Instr.form : Instr → Form
  | .nop => .nop
  | .ldBcD16 nn => .ldPairImm .bc nn
  | .ldAtBcA => .stAccPtr .bc
  | .incBc => .inc16 .bc
  | .incB => .inc8 (.reg .b)
  | .decB => .dec8 (.reg .b)
  | .ldBD8 n => .ldRegImm .b n
  | .rlca => .rlca
  | .ldAtA16Sp nn => .stSpAbs nn
  | .addHlBc => .addHl .bc
  | .ldAAtBc => .ldAccPtr .bc
  | .decBc => .dec16 .bc
  | .incC => .inc8 (.reg .c)
  | .decC => .dec8 (.reg .c)
  | .ldCD8 n => .ldRegImm .c n
  | .rrca => .rrca
  | .stop n => .stop n
  | .ldDeD16 nn => .ldPairImm .de nn
  | .ldAtDeA => .stAccPtr .de
  | .incDe => .inc16 .de
  | .incD => .inc8 (.reg .d)
  | .decD => .dec8 (.reg .d)
  | .ldDD8 n => .ldRegImm .d n
  | .rla => .rla
  | .jrE8 n => .jr n
  | .addHlDe => .addHl .de
  | .ldAAtDe => .ldAccPtr .de
  | .decDe => .dec16 .de
  | .incE => .inc8 (.reg .e)
  | .decE => .dec8 (.reg .e)
  | .ldED8 n => .ldRegImm .e n
  | .rra => .rra
  | .jrNzE8 n => .jrCond .nz n
  | .ldHlD16 nn => .ldPairImm .hl nn
  | .ldAtHlIncA => .stAccHlInc
  | .incHl => .inc16 .hl
  | .incH => .inc8 (.reg .h)
  | .decH => .dec8 (.reg .h)
  | .ldHD8 n => .ldRegImm .h n
  | .daa => .daa
  | .jrZE8 n => .jrCond .z n
  | .addHlHl => .addHl .hl
  | .ldAAtHlInc => .ldAccHlInc
  | .decHl => .dec16 .hl
  | .incL => .inc8 (.reg .l)
  | .decL => .dec8 (.reg .l)
  | .ldLD8 n => .ldRegImm .l n
  | .cpl => .cpl
  | .jrNcE8 n => .jrCond .nc n
  | .ldSpD16 nn => .ldPairImm .sp nn
  | .ldAtHlDecA => .stAccHlDec
  | .incSp => .inc16 .sp
  | .incAtHl => .inc8 .atHl
  | .decAtHl => .dec8 .atHl
  | .ldAtHlD8 n => .ldMemImm n
  | .scf => .scf
  | .jrCE8 n => .jrCond .c n
  | .addHlSp => .addHl .sp
  | .ldAAtHlDec => .ldAccHlDec
  | .decSp => .dec16 .sp
  | .incA => .inc8 (.reg .a)
  | .decA => .dec8 (.reg .a)
  | .ldAD8 n => .ldRegImm .a n
  | .ccf => .ccf
  | .ldBB => .ldRegReg .b .b
  | .ldBC => .ldRegReg .b .c
  | .ldBD => .ldRegReg .b .d
  | .ldBE => .ldRegReg .b .e
  | .ldBH => .ldRegReg .b .h
  | .ldBL => .ldRegReg .b .l
  | .ldBAtHl => .ldRegMem .b
  | .ldBA => .ldRegReg .b .a
  | .ldCB => .ldRegReg .c .b
  | .ldCC => .ldRegReg .c .c
  | .ldCD => .ldRegReg .c .d
  | .ldCE => .ldRegReg .c .e
  | .ldCH => .ldRegReg .c .h
  | .ldCL => .ldRegReg .c .l
  | .ldCAtHl => .ldRegMem .c
  | .ldCA => .ldRegReg .c .a
  | .ldDB => .ldRegReg .d .b
  | .ldDC => .ldRegReg .d .c
  | .ldDD => .ldRegReg .d .d
  | .ldDE => .ldRegReg .d .e
  | .ldDH => .ldRegReg .d .h
  | .ldDL => .ldRegReg .d .l
  | .ldDAtHl => .ldRegMem .d
  | .ldDA => .ldRegReg .d .a
  | .ldEB => .ldRegReg .e .b
  | .ldEC => .ldRegReg .e .c
  | .ldED => .ldRegReg .e .d
  | .ldEE => .ldRegReg .e .e
  | .ldEH => .ldRegReg .e .h
  | .ldEL => .ldRegReg .e .l
  | .ldEAtHl => .ldRegMem .e
  | .ldEA => .ldRegReg .e .a
  | .ldHB => .ldRegReg .h .b
  | .ldHC => .ldRegReg .h .c
  | .ldHD => .ldRegReg .h .d
  | .ldHE => .ldRegReg .h .e
  | .ldHH => .ldRegReg .h .h
  | .ldHL => .ldRegReg .h .l
  | .ldHAtHl => .ldRegMem .h
  | .ldHA => .ldRegReg .h .a
  | .ldLB => .ldRegReg .l .b
  | .ldLC => .ldRegReg .l .c
  | .ldLD => .ldRegReg .l .d
  | .ldLE => .ldRegReg .l .e
  | .ldLH => .ldRegReg .l .h
  | .ldLL => .ldRegReg .l .l
  | .ldLAtHl => .ldRegMem .l
  | .ldLA => .ldRegReg .l .a
  | .ldAtHlB => .ldMemReg .b
  | .ldAtHlC => .ldMemReg .c
  | .ldAtHlD => .ldMemReg .d
  | .ldAtHlE => .ldMemReg .e
  | .ldAtHlH => .ldMemReg .h
  | .ldAtHlL => .ldMemReg .l
  | .halt => .halt
  | .ldAtHlA => .ldMemReg .a
  | .ldAB => .ldRegReg .a .b
  | .ldAC => .ldRegReg .a .c
  | .ldAD => .ldRegReg .a .d
  | .ldAE => .ldRegReg .a .e
  | .ldAH => .ldRegReg .a .h
  | .ldAL => .ldRegReg .a .l
  | .ldAAtHl => .ldRegMem .a
  | .ldAA => .ldRegReg .a .a
  | .addAB => .aluReg .add (.reg .b)
  | .addAC => .aluReg .add (.reg .c)
  | .addAD => .aluReg .add (.reg .d)
  | .addAE => .aluReg .add (.reg .e)
  | .addAH => .aluReg .add (.reg .h)
  | .addAL => .aluReg .add (.reg .l)
  | .addAAtHl => .aluReg .add .atHl
  | .addAA => .aluReg .add (.reg .a)
  | .adcAB => .aluReg .adc (.reg .b)
  | .adcAC => .aluReg .adc (.reg .c)
  | .adcAD => .aluReg .adc (.reg .d)
  | .adcAE => .aluReg .adc (.reg .e)
  | .adcAH => .aluReg .adc (.reg .h)
  | .adcAL => .aluReg .adc (.reg .l)
  | .adcAAtHl => .aluReg .adc .atHl
  | .adcAA => .aluReg .adc (.reg .a)
  | .subB => .aluReg .sub (.reg .b)
  | .subC => .aluReg .sub (.reg .c)
  | .subD => .aluReg .sub (.reg .d)
  | .subE => .aluReg .sub (.reg .e)
  | .subH => .aluReg .sub (.reg .h)
  | .subL => .aluReg .sub (.reg .l)
  | .subAtHl => .aluReg .sub .atHl
  | .subA => .aluReg .sub (.reg .a)
  | .sbcAB => .aluReg .sbc (.reg .b)
  | .sbcAC => .aluReg .sbc (.reg .c)
  | .sbcAD => .aluReg .sbc (.reg .d)
  | .sbcAE => .aluReg .sbc (.reg .e)
  | .sbcAH => .aluReg .sbc (.reg .h)
  | .sbcAL => .aluReg .sbc (.reg .l)
  | .sbcAAtHl => .aluReg .sbc .atHl
  | .sbcAA => .aluReg .sbc (.reg .a)
  | .andB => .aluReg .and (.reg .b)
  | .andC => .aluReg .and (.reg .c)
  | .andD => .aluReg .and (.reg .d)
  | .andE => .aluReg .and (.reg .e)
  | .andH => .aluReg .and (.reg .h)
  | .andL => .aluReg .and (.reg .l)
  | .andAtHl => .aluReg .and .atHl
  | .andA => .aluReg .and (.reg .a)
  | .xorB => .aluReg .xor (.reg .b)
  | .xorC => .aluReg .xor (.reg .c)
  | .xorD => .aluReg .xor (.reg .d)
  | .xorE => .aluReg .xor (.reg .e)
  | .xorH => .aluReg .xor (.reg .h)
  | .xorL => .aluReg .xor (.reg .l)
  | .xorAtHl => .aluReg .xor .atHl
  | .xorA => .aluReg .xor (.reg .a)
  | .orB => .aluReg .or (.reg .b)
  | .orC => .aluReg .or (.reg .c)
  | .orD => .aluReg .or (.reg .d)
  | .orE => .aluReg .or (.reg .e)
  | .orH => .aluReg .or (.reg .h)
  | .orL => .aluReg .or (.reg .l)
  | .orAtHl => .aluReg .or .atHl
  | .orA => .aluReg .or (.reg .a)
  | .cpB => .aluReg .cp (.reg .b)
  | .cpC => .aluReg .cp (.reg .c)
  | .cpD => .aluReg .cp (.reg .d)
  | .cpE => .aluReg .cp (.reg .e)
  | .cpH => .aluReg .cp (.reg .h)
  | .cpL => .aluReg .cp (.reg .l)
  | .cpAtHl => .aluReg .cp .atHl
  | .cpA => .aluReg .cp (.reg .a)
  | .retNz => .retCond .nz
  | .popBc => .pop .bc
  | .jpNzA16 nn => .jpCond .nz nn
  | .jpA16 nn => .jp nn
  | .callNzA16 nn => .callCond .nz nn
  | .pushBc => .push .bc
  | .addAD8 n => .aluImm .add n
  | .rst00 => .rst 0
  | .retZ => .retCond .z
  | .ret => .ret
  | .jpZA16 nn => .jpCond .z nn
  | .prefixCb n => .prefixCb n
  | .callZA16 nn => .callCond .z nn
  | .callA16 nn => .call nn
  | .adcAD8 n => .aluImm .adc n
  | .rst08 => .rst 1
  | .retNc => .retCond .nc
  | .popDe => .pop .de
  | .jpNcA16 nn => .jpCond .nc nn
  | .unknownD3 => .unknown 0xD3
  | .callNcA16 nn => .callCond .nc nn
  | .pushDe => .push .de
  | .subD8 n => .aluImm .sub n
  | .rst10 => .rst 2
  | .retC => .retCond .c
  | .reti => .reti
  | .jpCA16 nn => .jpCond .c nn
  | .unknownDB => .unknown 0xDB
  | .callCA16 nn => .callCond .c nn
  | .unknownDD => .unknown 0xDD
  | .sbcAD8 n => .aluImm .sbc n
  | .rst18 => .rst 3
  | .ldhAtA8A n => .stAccHigh n
  | .popHl => .pop .hl
  | .ldAtCA => .stAccHighC
  | .unknownE3 => .unknown 0xE3
  | .unknownE4 => .unknown 0xE4
  | .pushHl => .push .hl
  | .andD8 n => .aluImm .and n
  | .rst20 => .rst 4
  | .addSpE8 n => .addSp n
  | .jpHl => .jpHl
  | .ldAtA16A nn => .stAccAbs nn
  | .unknownEB => .unknown 0xEB
  | .unknownEC => .unknown 0xEC
  | .unknownED => .unknown 0xED
  | .xorD8 n => .aluImm .xor n
  | .rst28 => .rst 5
  | .ldhAAtA8 n => .ldAccHigh n
  | .popAf => .pop .af
  | .ldAAtC => .ldAccHighC
  | .di => .di
  | .unknownF4 => .unknown 0xF4
  | .pushAf => .push .af
  | .orD8 n => .aluImm .or n
  | .rst30 => .rst 6
  | .ldHlSpE8 n => .ldHlSp n
  | .ldSpHl => .ldSpHl
  | .ldAAtA16 nn => .ldAccAbs nn
  | .ei => .ei
  | .unknownFC => .unknown 0xFC
  | .unknownFD => .unknown 0xFD
  | .cpD8 n => .aluImm .cp n
  | .rst38 => .rst 7
  | .rlcB => .shift .rlc (.reg .b)
  | .rlcC => .shift .rlc (.reg .c)
  | .rlcD => .shift .rlc (.reg .d)
  | .rlcE => .shift .rlc (.reg .e)
  | .rlcH => .shift .rlc (.reg .h)
  | .rlcL => .shift .rlc (.reg .l)
  | .rlcAtHl => .shift .rlc .atHl
  | .rlcA => .shift .rlc (.reg .a)
  | .rrcB => .shift .rrc (.reg .b)
  | .rrcC => .shift .rrc (.reg .c)
  | .rrcD => .shift .rrc (.reg .d)
  | .rrcE => .shift .rrc (.reg .e)
  | .rrcH => .shift .rrc (.reg .h)
  | .rrcL => .shift .rrc (.reg .l)
  | .rrcAtHl => .shift .rrc .atHl
  | .rrcA => .shift .rrc (.reg .a)
  | .rlB => .shift .rl (.reg .b)
  | .rlC => .shift .rl (.reg .c)
  | .rlD => .shift .rl (.reg .d)
  | .rlE => .shift .rl (.reg .e)
  | .rlH => .shift .rl (.reg .h)
  | .rlL => .shift .rl (.reg .l)
  | .rlAtHl => .shift .rl .atHl
  | .rlA => .shift .rl (.reg .a)
  | .rrB => .shift .rr (.reg .b)
  | .rrC => .shift .rr (.reg .c)
  | .rrD => .shift .rr (.reg .d)
  | .rrE => .shift .rr (.reg .e)
  | .rrH => .shift .rr (.reg .h)
  | .rrL => .shift .rr (.reg .l)
  | .rrAtHl => .shift .rr .atHl
  | .rrA => .shift .rr (.reg .a)
  | .slaB => .shift .sla (.reg .b)
  | .slaC => .shift .sla (.reg .c)
  | .slaD => .shift .sla (.reg .d)
  | .slaE => .shift .sla (.reg .e)
  | .slaH => .shift .sla (.reg .h)
  | .slaL => .shift .sla (.reg .l)
  | .slaAtHl => .shift .sla .atHl
  | .slaA => .shift .sla (.reg .a)
  | .sraB => .shift .sra (.reg .b)
  | .sraC => .shift .sra (.reg .c)
  | .sraD => .shift .sra (.reg .d)
  | .sraE => .shift .sra (.reg .e)
  | .sraH => .shift .sra (.reg .h)
  | .sraL => .shift .sra (.reg .l)
  | .sraAtHl => .shift .sra .atHl
  | .sraA => .shift .sra (.reg .a)
  | .swapB => .shift .swap (.reg .b)
  | .swapC => .shift .swap (.reg .c)
  | .swapD => .shift .swap (.reg .d)
  | .swapE => .shift .swap (.reg .e)
  | .swapH => .shift .swap (.reg .h)
  | .swapL => .shift .swap (.reg .l)
  | .swapAtHl => .shift .swap .atHl
  | .swapA => .shift .swap (.reg .a)
  | .srlB => .shift .srl (.reg .b)
  | .srlC => .shift .srl (.reg .c)
  | .srlD => .shift .srl (.reg .d)
  | .srlE => .shift .srl (.reg .e)
  | .srlH => .shift .srl (.reg .h)
  | .srlL => .shift .srl (.reg .l)
  | .srlAtHl => .shift .srl .atHl
  | .srlA => .shift .srl (.reg .a)
  | .bit0B => .bit 0 (.reg .b)
  | .bit0C => .bit 0 (.reg .c)
  | .bit0D => .bit 0 (.reg .d)
  | .bit0E => .bit 0 (.reg .e)
  | .bit0H => .bit 0 (.reg .h)
  | .bit0L => .bit 0 (.reg .l)
  | .bit0AtHl => .bit 0 .atHl
  | .bit0A => .bit 0 (.reg .a)
  | .bit1B => .bit 1 (.reg .b)
  | .bit1C => .bit 1 (.reg .c)
  | .bit1D => .bit 1 (.reg .d)
  | .bit1E => .bit 1 (.reg .e)
  | .bit1H => .bit 1 (.reg .h)
  | .bit1L => .bit 1 (.reg .l)
  | .bit1AtHl => .bit 1 .atHl
  | .bit1A => .bit 1 (.reg .a)
  | .bit2B => .bit 2 (.reg .b)
  | .bit2C => .bit 2 (.reg .c)
  | .bit2D => .bit 2 (.reg .d)
  | .bit2E => .bit 2 (.reg .e)
  | .bit2H => .bit 2 (.reg .h)
  | .bit2L => .bit 2 (.reg .l)
  | .bit2AtHl => .bit 2 .atHl
  | .bit2A => .bit 2 (.reg .a)
  | .bit3B => .bit 3 (.reg .b)
  | .bit3C => .bit 3 (.reg .c)
  | .bit3D => .bit 3 (.reg .d)
  | .bit3E => .bit 3 (.reg .e)
  | .bit3H => .bit 3 (.reg .h)
  | .bit3L => .bit 3 (.reg .l)
  | .bit3AtHl => .bit 3 .atHl
  | .bit3A => .bit 3 (.reg .a)
  | .bit4B => .bit 4 (.reg .b)
  | .bit4C => .bit 4 (.reg .c)
  | .bit4D => .bit 4 (.reg .d)
  | .bit4E => .bit 4 (.reg .e)
  | .bit4H => .bit 4 (.reg .h)
  | .bit4L => .bit 4 (.reg .l)
  | .bit4AtHl => .bit 4 .atHl
  | .bit4A => .bit 4 (.reg .a)
  | .bit5B => .bit 5 (.reg .b)
  | .bit5C => .bit 5 (.reg .c)
  | .bit5D => .bit 5 (.reg .d)
  | .bit5E => .bit 5 (.reg .e)
  | .bit5H => .bit 5 (.reg .h)
  | .bit5L => .bit 5 (.reg .l)
  | .bit5AtHl => .bit 5 .atHl
  | .bit5A => .bit 5 (.reg .a)
  | .bit6B => .bit 6 (.reg .b)
  | .bit6C => .bit 6 (.reg .c)
  | .bit6D => .bit 6 (.reg .d)
  | .bit6E => .bit 6 (.reg .e)
  | .bit6H => .bit 6 (.reg .h)
  | .bit6L => .bit 6 (.reg .l)
  | .bit6AtHl => .bit 6 .atHl
  | .bit6A => .bit 6 (.reg .a)
  | .bit7B => .bit 7 (.reg .b)
  | .bit7C => .bit 7 (.reg .c)
  | .bit7D => .bit 7 (.reg .d)
  | .bit7E => .bit 7 (.reg .e)
  | .bit7H => .bit 7 (.reg .h)
  | .bit7L => .bit 7 (.reg .l)
  | .bit7AtHl => .bit 7 .atHl
  | .bit7A => .bit 7 (.reg .a)
  | .res0B => .res 0 (.reg .b)
  | .res0C => .res 0 (.reg .c)
  | .res0D => .res 0 (.reg .d)
  | .res0E => .res 0 (.reg .e)
  | .res0H => .res 0 (.reg .h)
  | .res0L => .res 0 (.reg .l)
  | .res0AtHl => .res 0 .atHl
  | .res0A => .res 0 (.reg .a)
  | .res1B => .res 1 (.reg .b)
  | .res1C => .res 1 (.reg .c)
  | .res1D => .res 1 (.reg .d)
  | .res1E => .res 1 (.reg .e)
  | .res1H => .res 1 (.reg .h)
  | .res1L => .res 1 (.reg .l)
  | .res1AtHl => .res 1 .atHl
  | .res1A => .res 1 (.reg .a)
  | .res2B => .res 2 (.reg .b)
  | .res2C => .res 2 (.reg .c)
  | .res2D => .res 2 (.reg .d)
  | .res2E => .res 2 (.reg .e)
  | .res2H => .res 2 (.reg .h)
  | .res2L => .res 2 (.reg .l)
  | .res2AtHl => .res 2 .atHl
  | .res2A => .res 2 (.reg .a)
  | .res3B => .res 3 (.reg .b)
  | .res3C => .res 3 (.reg .c)
  | .res3D => .res 3 (.reg .d)
  | .res3E => .res 3 (.reg .e)
  | .res3H => .res 3 (.reg .h)
  | .res3L => .res 3 (.reg .l)
  | .res3AtHl => .res 3 .atHl
  | .res3A => .res 3 (.reg .a)
  | .res4B => .res 4 (.reg .b)
  | .res4C => .res 4 (.reg .c)
  | .res4D => .res 4 (.reg .d)
  | .res4E => .res 4 (.reg .e)
  | .res4H => .res 4 (.reg .h)
  | .res4L => .res 4 (.reg .l)
  | .res4AtHl => .res 4 .atHl
  | .res4A => .res 4 (.reg .a)
  | .res5B => .res 5 (.reg .b)
  | .res5C => .res 5 (.reg .c)
  | .res5D => .res 5 (.reg .d)
  | .res5E => .res 5 (.reg .e)
  | .res5H => .res 5 (.reg .h)
  | .res5L => .res 5 (.reg .l)
  | .res5AtHl => .res 5 .atHl
  | .res5A => .res 5 (.reg .a)
  | .res6B => .res 6 (.reg .b)
  | .res6C => .res 6 (.reg .c)
  | .res6D => .res 6 (.reg .d)
  | .res6E => .res 6 (.reg .e)
  | .res6H => .res 6 (.reg .h)
  | .res6L => .res 6 (.reg .l)
  | .res6AtHl => .res 6 .atHl
  | .res6A => .res 6 (.reg .a)
  | .res7B => .res 7 (.reg .b)
  | .res7C => .res 7 (.reg .c)
  | .res7D => .res 7 (.reg .d)
  | .res7E => .res 7 (.reg .e)
  | .res7H => .res 7 (.reg .h)
  | .res7L => .res 7 (.reg .l)
  | .res7AtHl => .res 7 .atHl
  | .res7A => .res 7 (.reg .a)
  | .set0B => .set 0 (.reg .b)
  | .set0C => .set 0 (.reg .c)
  | .set0D => .set 0 (.reg .d)
  | .set0E => .set 0 (.reg .e)
  | .set0H => .set 0 (.reg .h)
  | .set0L => .set 0 (.reg .l)
  | .set0AtHl => .set 0 .atHl
  | .set0A => .set 0 (.reg .a)
  | .set1B => .set 1 (.reg .b)
  | .set1C => .set 1 (.reg .c)
  | .set1D => .set 1 (.reg .d)
  | .set1E => .set 1 (.reg .e)
  | .set1H => .set 1 (.reg .h)
  | .set1L => .set 1 (.reg .l)
  | .set1AtHl => .set 1 .atHl
  | .set1A => .set 1 (.reg .a)
  | .set2B => .set 2 (.reg .b)
  | .set2C => .set 2 (.reg .c)
  | .set2D => .set 2 (.reg .d)
  | .set2E => .set 2 (.reg .e)
  | .set2H => .set 2 (.reg .h)
  | .set2L => .set 2 (.reg .l)
  | .set2AtHl => .set 2 .atHl
  | .set2A => .set 2 (.reg .a)
  | .set3B => .set 3 (.reg .b)
  | .set3C => .set 3 (.reg .c)
  | .set3D => .set 3 (.reg .d)
  | .set3E => .set 3 (.reg .e)
  | .set3H => .set 3 (.reg .h)
  | .set3L => .set 3 (.reg .l)
  | .set3AtHl => .set 3 .atHl
  | .set3A => .set 3 (.reg .a)
  | .set4B => .set 4 (.reg .b)
  | .set4C => .set 4 (.reg .c)
  | .set4D => .set 4 (.reg .d)
  | .set4E => .set 4 (.reg .e)
  | .set4H => .set 4 (.reg .h)
  | .set4L => .set 4 (.reg .l)
  | .set4AtHl => .set 4 .atHl
  | .set4A => .set 4 (.reg .a)
  | .set5B => .set 5 (.reg .b)
  | .set5C => .set 5 (.reg .c)
  | .set5D => .set 5 (.reg .d)
  | .set5E => .set 5 (.reg .e)
  | .set5H => .set 5 (.reg .h)
  | .set5L => .set 5 (.reg .l)
  | .set5AtHl => .set 5 .atHl
  | .set5A => .set 5 (.reg .a)
  | .set6B => .set 6 (.reg .b)
  | .set6C => .set 6 (.reg .c)
  | .set6D => .set 6 (.reg .d)
  | .set6E => .set 6 (.reg .e)
  | .set6H => .set 6 (.reg .h)
  | .set6L => .set 6 (.reg .l)
  | .set6AtHl => .set 6 .atHl
  | .set6A => .set 6 (.reg .a)
  | .set7B => .set 7 (.reg .b)
  | .set7C => .set 7 (.reg .c)
  | .set7D => .set 7 (.reg .d)
  | .set7E => .set 7 (.reg .e)
  | .set7H => .set 7 (.reg .h)
  | .set7L => .set 7 (.reg .l)
  | .set7AtHl => .set 7 .atHl
  | .set7A => .set 7 (.reg .a)

/-- One row of a 256-entry map: the entries of its 16 columns (R85). -/
structure Row (α : Type) where
  (x0 x1 x2 x3 x4 x5 x6 x7 x8 x9 xA xB xC xD xE xF : α)

/-- The entry in column k. -/
def Row.column {α : Type} (r : Row α) (k : BitVec 4) : α :=
  match k.toNat with
  | 0 => r.x0
  | 1 => r.x1
  | 2 => r.x2
  | 3 => r.x3
  | 4 => r.x4
  | 5 => r.x5
  | 6 => r.x6
  | 7 => r.x7
  | 8 => r.x8
  | 9 => r.x9
  | 10 => r.xA
  | 11 => r.xB
  | 12 => r.xC
  | 13 => r.xD
  | 14 => r.xE
  | _ => r.xF

/-- The entry of a 256-entry map: the high nibble picks the row and the low nibble the column (R85). -/
def Row.at256 {α : Type} (t : Row (Row α)) (v : Byte) : α :=
  (t.column (v.extractLsb' 4 4)).column (v.extractLsb' 0 4)

/-- What the primary map says of an opcode: which operand it takes (R73, R77) and the instruction it makes of it. The
operand's type is the constructor's, so a wrong-width operand cannot be written down (R242). -/
inductive Entry where
  /-- format O -/
  | bare (i : Instr)
  /-- formats I8 and CB -/
  | imm8 (make : Byte → Instr)
  /-- format I16 -/
  | imm16 (make : Word → Instr)
  /-- an UNKNOWN opcode (R88) -/
  | unknown (i : Instr)

/-- operandCount (R73). -/
def Entry.operandCount : Entry → Nat
  | .bare _ => 0
  | .imm8 _ => 1
  | .imm16 _ => 2
  | .unknown _ => 0

/-- CB 0x00 to 0x0F (R87). -/
def cbRow0 : Row Instr :=
  ⟨.rlcB, .rlcC, .rlcD, .rlcE, .rlcH, .rlcL, .rlcAtHl, .rlcA, .rrcB, .rrcC, .rrcD, .rrcE, .rrcH, .rrcL, .rrcAtHl, .rrcA⟩

/-- CB 0x10 to 0x1F (R87). -/
def cbRow1 : Row Instr :=
  ⟨.rlB, .rlC, .rlD, .rlE, .rlH, .rlL, .rlAtHl, .rlA, .rrB, .rrC, .rrD, .rrE, .rrH, .rrL, .rrAtHl, .rrA⟩

/-- CB 0x20 to 0x2F (R87). -/
def cbRow2 : Row Instr :=
  ⟨.slaB, .slaC, .slaD, .slaE, .slaH, .slaL, .slaAtHl, .slaA, .sraB, .sraC, .sraD, .sraE, .sraH, .sraL, .sraAtHl, .sraA⟩

/-- CB 0x30 to 0x3F (R87). -/
def cbRow3 : Row Instr :=
  ⟨.swapB, .swapC, .swapD, .swapE, .swapH, .swapL, .swapAtHl, .swapA, .srlB, .srlC, .srlD, .srlE, .srlH, .srlL, .srlAtHl, .srlA⟩

/-- CB 0x40 to 0x4F (R87). -/
def cbRow4 : Row Instr :=
  ⟨.bit0B, .bit0C, .bit0D, .bit0E, .bit0H, .bit0L, .bit0AtHl, .bit0A, .bit1B, .bit1C, .bit1D, .bit1E, .bit1H, .bit1L, .bit1AtHl, .bit1A⟩

/-- CB 0x50 to 0x5F (R87). -/
def cbRow5 : Row Instr :=
  ⟨.bit2B, .bit2C, .bit2D, .bit2E, .bit2H, .bit2L, .bit2AtHl, .bit2A, .bit3B, .bit3C, .bit3D, .bit3E, .bit3H, .bit3L, .bit3AtHl, .bit3A⟩

/-- CB 0x60 to 0x6F (R87). -/
def cbRow6 : Row Instr :=
  ⟨.bit4B, .bit4C, .bit4D, .bit4E, .bit4H, .bit4L, .bit4AtHl, .bit4A, .bit5B, .bit5C, .bit5D, .bit5E, .bit5H, .bit5L, .bit5AtHl, .bit5A⟩

/-- CB 0x70 to 0x7F (R87). -/
def cbRow7 : Row Instr :=
  ⟨.bit6B, .bit6C, .bit6D, .bit6E, .bit6H, .bit6L, .bit6AtHl, .bit6A, .bit7B, .bit7C, .bit7D, .bit7E, .bit7H, .bit7L, .bit7AtHl, .bit7A⟩

/-- CB 0x80 to 0x8F (R87). -/
def cbRow8 : Row Instr :=
  ⟨.res0B, .res0C, .res0D, .res0E, .res0H, .res0L, .res0AtHl, .res0A, .res1B, .res1C, .res1D, .res1E, .res1H, .res1L, .res1AtHl, .res1A⟩

/-- CB 0x90 to 0x9F (R87). -/
def cbRow9 : Row Instr :=
  ⟨.res2B, .res2C, .res2D, .res2E, .res2H, .res2L, .res2AtHl, .res2A, .res3B, .res3C, .res3D, .res3E, .res3H, .res3L, .res3AtHl, .res3A⟩

/-- CB 0xA0 to 0xAF (R87). -/
def cbRowA : Row Instr :=
  ⟨.res4B, .res4C, .res4D, .res4E, .res4H, .res4L, .res4AtHl, .res4A, .res5B, .res5C, .res5D, .res5E, .res5H, .res5L, .res5AtHl, .res5A⟩

/-- CB 0xB0 to 0xBF (R87). -/
def cbRowB : Row Instr :=
  ⟨.res6B, .res6C, .res6D, .res6E, .res6H, .res6L, .res6AtHl, .res6A, .res7B, .res7C, .res7D, .res7E, .res7H, .res7L, .res7AtHl, .res7A⟩

/-- CB 0xC0 to 0xCF (R87). -/
def cbRowC : Row Instr :=
  ⟨.set0B, .set0C, .set0D, .set0E, .set0H, .set0L, .set0AtHl, .set0A, .set1B, .set1C, .set1D, .set1E, .set1H, .set1L, .set1AtHl, .set1A⟩

/-- CB 0xD0 to 0xDF (R87). -/
def cbRowD : Row Instr :=
  ⟨.set2B, .set2C, .set2D, .set2E, .set2H, .set2L, .set2AtHl, .set2A, .set3B, .set3C, .set3D, .set3E, .set3H, .set3L, .set3AtHl, .set3A⟩

/-- CB 0xE0 to 0xEF (R87). -/
def cbRowE : Row Instr :=
  ⟨.set4B, .set4C, .set4D, .set4E, .set4H, .set4L, .set4AtHl, .set4A, .set5B, .set5C, .set5D, .set5E, .set5H, .set5L, .set5AtHl, .set5A⟩

/-- CB 0xF0 to 0xFF (R87). -/
def cbRowF : Row Instr :=
  ⟨.set6B, .set6C, .set6D, .set6E, .set6H, .set6L, .set6AtHl, .set6A, .set7B, .set7C, .set7D, .set7E, .set7H, .set7L, .set7AtHl, .set7A⟩

/-- The 256 entries of the CB sub-table (R87). -/
def cbTable : Row (Row Instr) :=
  ⟨cbRow0, cbRow1, cbRow2, cbRow3, cbRow4, cbRow5, cbRow6, cbRow7,
   cbRow8, cbRow9, cbRowA, cbRowB, cbRowC, cbRowD, cbRowE, cbRowF⟩

/-- Entry `cbop` of the CB sub-table (R86). -/
def cbEntry (cbop : Byte) : Instr :=
  cbTable.at256 cbop

/-- Opcodes 0x00 to 0x0F (R85). -/
def primaryRow0 : Row Entry :=
  ⟨.bare .nop, .imm16 .ldBcD16, .bare .ldAtBcA, .bare .incBc,
   .bare .incB, .bare .decB, .imm8 .ldBD8, .bare .rlca,
   .imm16 .ldAtA16Sp, .bare .addHlBc, .bare .ldAAtBc, .bare .decBc,
   .bare .incC, .bare .decC, .imm8 .ldCD8, .bare .rrca⟩

/-- Opcodes 0x10 to 0x1F (R85). -/
def primaryRow1 : Row Entry :=
  ⟨.imm8 .stop, .imm16 .ldDeD16, .bare .ldAtDeA, .bare .incDe,
   .bare .incD, .bare .decD, .imm8 .ldDD8, .bare .rla,
   .imm8 .jrE8, .bare .addHlDe, .bare .ldAAtDe, .bare .decDe,
   .bare .incE, .bare .decE, .imm8 .ldED8, .bare .rra⟩

/-- Opcodes 0x20 to 0x2F (R85). -/
def primaryRow2 : Row Entry :=
  ⟨.imm8 .jrNzE8, .imm16 .ldHlD16, .bare .ldAtHlIncA, .bare .incHl,
   .bare .incH, .bare .decH, .imm8 .ldHD8, .bare .daa,
   .imm8 .jrZE8, .bare .addHlHl, .bare .ldAAtHlInc, .bare .decHl,
   .bare .incL, .bare .decL, .imm8 .ldLD8, .bare .cpl⟩

/-- Opcodes 0x30 to 0x3F (R85). -/
def primaryRow3 : Row Entry :=
  ⟨.imm8 .jrNcE8, .imm16 .ldSpD16, .bare .ldAtHlDecA, .bare .incSp,
   .bare .incAtHl, .bare .decAtHl, .imm8 .ldAtHlD8, .bare .scf,
   .imm8 .jrCE8, .bare .addHlSp, .bare .ldAAtHlDec, .bare .decSp,
   .bare .incA, .bare .decA, .imm8 .ldAD8, .bare .ccf⟩

/-- Opcodes 0x40 to 0x4F (R85). -/
def primaryRow4 : Row Entry :=
  ⟨.bare .ldBB, .bare .ldBC, .bare .ldBD, .bare .ldBE,
   .bare .ldBH, .bare .ldBL, .bare .ldBAtHl, .bare .ldBA,
   .bare .ldCB, .bare .ldCC, .bare .ldCD, .bare .ldCE,
   .bare .ldCH, .bare .ldCL, .bare .ldCAtHl, .bare .ldCA⟩

/-- Opcodes 0x50 to 0x5F (R85). -/
def primaryRow5 : Row Entry :=
  ⟨.bare .ldDB, .bare .ldDC, .bare .ldDD, .bare .ldDE,
   .bare .ldDH, .bare .ldDL, .bare .ldDAtHl, .bare .ldDA,
   .bare .ldEB, .bare .ldEC, .bare .ldED, .bare .ldEE,
   .bare .ldEH, .bare .ldEL, .bare .ldEAtHl, .bare .ldEA⟩

/-- Opcodes 0x60 to 0x6F (R85). -/
def primaryRow6 : Row Entry :=
  ⟨.bare .ldHB, .bare .ldHC, .bare .ldHD, .bare .ldHE,
   .bare .ldHH, .bare .ldHL, .bare .ldHAtHl, .bare .ldHA,
   .bare .ldLB, .bare .ldLC, .bare .ldLD, .bare .ldLE,
   .bare .ldLH, .bare .ldLL, .bare .ldLAtHl, .bare .ldLA⟩

/-- Opcodes 0x70 to 0x7F (R85). -/
def primaryRow7 : Row Entry :=
  ⟨.bare .ldAtHlB, .bare .ldAtHlC, .bare .ldAtHlD, .bare .ldAtHlE,
   .bare .ldAtHlH, .bare .ldAtHlL, .bare .halt, .bare .ldAtHlA,
   .bare .ldAB, .bare .ldAC, .bare .ldAD, .bare .ldAE,
   .bare .ldAH, .bare .ldAL, .bare .ldAAtHl, .bare .ldAA⟩

/-- Opcodes 0x80 to 0x8F (R85). -/
def primaryRow8 : Row Entry :=
  ⟨.bare .addAB, .bare .addAC, .bare .addAD, .bare .addAE,
   .bare .addAH, .bare .addAL, .bare .addAAtHl, .bare .addAA,
   .bare .adcAB, .bare .adcAC, .bare .adcAD, .bare .adcAE,
   .bare .adcAH, .bare .adcAL, .bare .adcAAtHl, .bare .adcAA⟩

/-- Opcodes 0x90 to 0x9F (R85). -/
def primaryRow9 : Row Entry :=
  ⟨.bare .subB, .bare .subC, .bare .subD, .bare .subE,
   .bare .subH, .bare .subL, .bare .subAtHl, .bare .subA,
   .bare .sbcAB, .bare .sbcAC, .bare .sbcAD, .bare .sbcAE,
   .bare .sbcAH, .bare .sbcAL, .bare .sbcAAtHl, .bare .sbcAA⟩

/-- Opcodes 0xA0 to 0xAF (R85). -/
def primaryRowA : Row Entry :=
  ⟨.bare .andB, .bare .andC, .bare .andD, .bare .andE,
   .bare .andH, .bare .andL, .bare .andAtHl, .bare .andA,
   .bare .xorB, .bare .xorC, .bare .xorD, .bare .xorE,
   .bare .xorH, .bare .xorL, .bare .xorAtHl, .bare .xorA⟩

/-- Opcodes 0xB0 to 0xBF (R85). -/
def primaryRowB : Row Entry :=
  ⟨.bare .orB, .bare .orC, .bare .orD, .bare .orE,
   .bare .orH, .bare .orL, .bare .orAtHl, .bare .orA,
   .bare .cpB, .bare .cpC, .bare .cpD, .bare .cpE,
   .bare .cpH, .bare .cpL, .bare .cpAtHl, .bare .cpA⟩

/-- Opcodes 0xC0 to 0xCF (R85). -/
def primaryRowC : Row Entry :=
  ⟨.bare .retNz, .bare .popBc, .imm16 .jpNzA16, .imm16 .jpA16,
   .imm16 .callNzA16, .bare .pushBc, .imm8 .addAD8, .bare .rst00,
   .bare .retZ, .bare .ret, .imm16 .jpZA16, .imm8 cbEntry,
   .imm16 .callZA16, .imm16 .callA16, .imm8 .adcAD8, .bare .rst08⟩

/-- Opcodes 0xD0 to 0xDF (R85). -/
def primaryRowD : Row Entry :=
  ⟨.bare .retNc, .bare .popDe, .imm16 .jpNcA16, .unknown .unknownD3,
   .imm16 .callNcA16, .bare .pushDe, .imm8 .subD8, .bare .rst10,
   .bare .retC, .bare .reti, .imm16 .jpCA16, .unknown .unknownDB,
   .imm16 .callCA16, .unknown .unknownDD, .imm8 .sbcAD8, .bare .rst18⟩

/-- Opcodes 0xE0 to 0xEF (R85). -/
def primaryRowE : Row Entry :=
  ⟨.imm8 .ldhAtA8A, .bare .popHl, .bare .ldAtCA, .unknown .unknownE3,
   .unknown .unknownE4, .bare .pushHl, .imm8 .andD8, .bare .rst20,
   .imm8 .addSpE8, .bare .jpHl, .imm16 .ldAtA16A, .unknown .unknownEB,
   .unknown .unknownEC, .unknown .unknownED, .imm8 .xorD8, .bare .rst28⟩

/-- Opcodes 0xF0 to 0xFF (R85). -/
def primaryRowF : Row Entry :=
  ⟨.imm8 .ldhAAtA8, .bare .popAf, .bare .ldAAtC, .bare .di,
   .unknown .unknownF4, .bare .pushAf, .imm8 .orD8, .bare .rst30,
   .imm8 .ldHlSpE8, .bare .ldSpHl, .imm16 .ldAAtA16, .bare .ei,
   .unknown .unknownFC, .unknown .unknownFD, .imm8 .cpD8, .bare .rst38⟩

/-- The primary opcode map (R85). 0xCB takes one operand byte, which selects the sub-table entry (R86). -/
def primaryTable : Row (Row Entry) :=
  ⟨primaryRow0, primaryRow1, primaryRow2, primaryRow3, primaryRow4, primaryRow5, primaryRow6, primaryRow7,
   primaryRow8, primaryRow9, primaryRowA, primaryRowB, primaryRowC, primaryRowD, primaryRowE, primaryRowF⟩

/-- The descriptor of a primary opcode (R74). -/
def primary (op : Byte) : Entry :=
  primaryTable.at256 op

/-- Why bytes give no instruction. An UNKNOWN opcode is no such case: it gives its row, whose meaning raises
DecodeError (R235). -/
inductive Reject where
  /-- there is no byte at all -/
  | noBytes
  /-- the bytes end inside the operand of this opcode -/
  | truncated (opcode : Byte)
  deriving DecidableEq, Repr

/-- The decoder (R74, R76): the first byte fixes the length, and operand bytes follow, low byte first. It answers the
instruction and the bytes after it. -/
def decode : List Byte → Except Reject (Instr × List Byte)
  | [] => .error .noBytes
  | op :: rest =>
    match primary op, rest with
    | .bare i, _ => .ok (i, rest)
    | .unknown i, _ => .ok (i, rest)
    | .imm8 make, n :: rest => .ok (make n, rest)
    | .imm16 make, lo :: hi :: rest => .ok (make (joinBytes hi lo), rest)
    | .imm8 _, [] => .error (.truncated op)
    | .imm16 _, [] => .error (.truncated op)
    | .imm16 _, [_] => .error (.truncated op)

/-- The primary opcode byte, from the bit patterns of R85 (and 0xCB for every CB row, R87). -/
def Form.opcode : Form → Byte
  | .nop => 0x00
  | .stop _ => 0x10
  | .halt => 0x76
  | .di => 0xF3
  | .ei => 0xFB
  | .rlca => 0x07
  | .rrca => 0x0F
  | .rla => 0x17
  | .rra => 0x1F
  | .daa => 0x27
  | .cpl => 0x2F
  | .scf => 0x37
  | .ccf => 0x3F
  | .ldRegReg dst src => 0b01#2 ++ dst.code ++ src.code
  | .ldRegImm dst _ => 0b00#2 ++ dst.code ++ 0b110#3
  | .ldRegMem dst => 0b01#2 ++ dst.code ++ 0b110#3
  | .ldMemReg src => 0b01#2 ++ 0b110#3 ++ src.code
  | .ldMemImm _ => 0x36
  | .ldAccPtr .bc => 0x0A
  | .ldAccPtr .de => 0x1A
  | .stAccPtr .bc => 0x02
  | .stAccPtr .de => 0x12
  | .ldAccAbs _ => 0xFA
  | .stAccAbs _ => 0xEA
  | .stAccHigh _ => 0xE0
  | .ldAccHigh _ => 0xF0
  | .stAccHighC => 0xE2
  | .ldAccHighC => 0xF2
  | .stAccHlInc => 0x22
  | .stAccHlDec => 0x32
  | .ldAccHlInc => 0x2A
  | .ldAccHlDec => 0x3A
  | .ldPairImm rr _ => 0b00#2 ++ rr.code ++ 0b0001#4
  | .stSpAbs _ => 0x08
  | .ldSpHl => 0xF9
  | .push rr => 0b11#2 ++ rr.code ++ 0b0101#4
  | .pop rr => 0b11#2 ++ rr.code ++ 0b0001#4
  | .aluReg op src => 0b10#2 ++ op.code ++ src.code
  | .aluImm op _ => 0b11#2 ++ op.code ++ 0b110#3
  | .inc8 dst => 0b00#2 ++ dst.code ++ 0b100#3
  | .dec8 dst => 0b00#2 ++ dst.code ++ 0b101#3
  | .addHl rr => 0b00#2 ++ rr.code ++ 0b1001#4
  | .inc16 rr => 0b00#2 ++ rr.code ++ 0b0011#4
  | .dec16 rr => 0b00#2 ++ rr.code ++ 0b1011#4
  | .addSp _ => 0xE8
  | .ldHlSp _ => 0xF8
  | .shift _ _ => 0xCB
  | .bit _ _ => 0xCB
  | .res _ _ => 0xCB
  | .set _ _ => 0xCB
  | .prefixCb _ => 0xCB
  | .jp _ => 0xC3
  | .jpCond cc _ => 0b110#3 ++ cc.code ++ 0b010#3
  | .jpHl => 0xE9
  | .jr _ => 0x18
  | .jrCond cc _ => 0b001#3 ++ cc.code ++ 0b000#3
  | .call _ => 0xCD
  | .callCond cc _ => 0b110#3 ++ cc.code ++ 0b100#3
  | .ret => 0xC9
  | .retCond cc => 0b110#3 ++ cc.code ++ 0b000#3
  | .reti => 0xD9
  | .rst t => 0b11#2 ++ t ++ 0b111#3
  | .unknown op => op

/-- The bytes after the opcode (R73, R76): the operand low byte first, or the CB sub-opcode `gg yyy zzz` (R87). -/
def Form.operandBytes : Form → List Byte
  | .stop n => [n]
  | .ldRegImm _ n => [n]
  | .ldMemImm n => [n]
  | .stAccHigh n => [n]
  | .ldAccHigh n => [n]
  | .aluImm _ n => [n]
  | .addSp n => [n]
  | .ldHlSp n => [n]
  | .jr n => [n]
  | .jrCond _ n => [n]
  | .prefixCb n => [n]
  | .ldAccAbs nn => [loByte nn, hiByte nn]
  | .stAccAbs nn => [loByte nn, hiByte nn]
  | .ldPairImm _ nn => [loByte nn, hiByte nn]
  | .stSpAbs nn => [loByte nn, hiByte nn]
  | .jp nn => [loByte nn, hiByte nn]
  | .jpCond _ nn => [loByte nn, hiByte nn]
  | .call nn => [loByte nn, hiByte nn]
  | .callCond _ nn => [loByte nn, hiByte nn]
  | .shift op dst => [0b00#2 ++ op.code ++ dst.code]
  | .bit k src => [0b01#2 ++ k ++ src.code]
  | .res k dst => [0b10#2 ++ k ++ dst.code]
  | .set k dst => [0b11#2 ++ k ++ dst.code]
  | .nop => []
  | .halt => []
  | .di => []
  | .ei => []
  | .daa => []
  | .cpl => []
  | .scf => []
  | .ccf => []
  | .rlca => []
  | .rrca => []
  | .rla => []
  | .rra => []
  | .ret => []
  | .reti => []
  | .jpHl => []
  | .ldSpHl => []
  | .stAccHighC => []
  | .ldAccHighC => []
  | .stAccHlInc => []
  | .stAccHlDec => []
  | .ldAccHlInc => []
  | .ldAccHlDec => []
  | .ldRegReg _ _ => []
  | .ldRegMem _ => []
  | .ldMemReg _ => []
  | .ldAccPtr _ => []
  | .stAccPtr _ => []
  | .push _ => []
  | .pop _ => []
  | .aluReg _ _ => []
  | .inc8 _ => []
  | .dec8 _ => []
  | .addHl _ => []
  | .inc16 _ => []
  | .dec16 _ => []
  | .retCond _ => []
  | .rst _ => []
  | .unknown _ => []

/-- The encoder: the bytes of an instruction in address order (R73). -/
def encode (i : Instr) : List Byte := i.form.opcode :: i.form.operandBytes

/-- What the decoder makes of an instruction's own bytes: the PREFIX CB row read with its operand is the sub-table entry
(R86); every other row is itself. -/
def Instr.canon (i : Instr) : Instr :=
  match i with
  | .prefixCb n => cbEntry n
  | i => i

/-- Mnemonics of 0x00 to 0x0F as R85 spells them. -/
def mnemonicRow0 : Row String :=
  ⟨"NOP", "LD BC,d16", "LD (BC),A", "INC BC", "INC B", "DEC B", "LD B,d8", "RLCA",
   "LD (a16),SP", "ADD HL,BC", "LD A,(BC)", "DEC BC", "INC C", "DEC C", "LD C,d8", "RRCA"⟩

/-- Mnemonics of 0x10 to 0x1F as R85 spells them. -/
def mnemonicRow1 : Row String :=
  ⟨"STOP", "LD DE,d16", "LD (DE),A", "INC DE", "INC D", "DEC D", "LD D,d8", "RLA",
   "JR e8", "ADD HL,DE", "LD A,(DE)", "DEC DE", "INC E", "DEC E", "LD E,d8", "RRA"⟩

/-- Mnemonics of 0x20 to 0x2F as R85 spells them. -/
def mnemonicRow2 : Row String :=
  ⟨"JR NZ,e8", "LD HL,d16", "LD (HL+),A", "INC HL", "INC H", "DEC H", "LD H,d8", "DAA",
   "JR Z,e8", "ADD HL,HL", "LD A,(HL+)", "DEC HL", "INC L", "DEC L", "LD L,d8", "CPL"⟩

/-- Mnemonics of 0x30 to 0x3F as R85 spells them. -/
def mnemonicRow3 : Row String :=
  ⟨"JR NC,e8", "LD SP,d16", "LD (HL-),A", "INC SP", "INC (HL)", "DEC (HL)", "LD (HL),d8", "SCF",
   "JR C,e8", "ADD HL,SP", "LD A,(HL-)", "DEC SP", "INC A", "DEC A", "LD A,d8", "CCF"⟩

/-- Mnemonics of 0x40 to 0x4F as R85 spells them. -/
def mnemonicRow4 : Row String :=
  ⟨"LD B,B", "LD B,C", "LD B,D", "LD B,E", "LD B,H", "LD B,L", "LD B,(HL)", "LD B,A",
   "LD C,B", "LD C,C", "LD C,D", "LD C,E", "LD C,H", "LD C,L", "LD C,(HL)", "LD C,A"⟩

/-- Mnemonics of 0x50 to 0x5F as R85 spells them. -/
def mnemonicRow5 : Row String :=
  ⟨"LD D,B", "LD D,C", "LD D,D", "LD D,E", "LD D,H", "LD D,L", "LD D,(HL)", "LD D,A",
   "LD E,B", "LD E,C", "LD E,D", "LD E,E", "LD E,H", "LD E,L", "LD E,(HL)", "LD E,A"⟩

/-- Mnemonics of 0x60 to 0x6F as R85 spells them. -/
def mnemonicRow6 : Row String :=
  ⟨"LD H,B", "LD H,C", "LD H,D", "LD H,E", "LD H,H", "LD H,L", "LD H,(HL)", "LD H,A",
   "LD L,B", "LD L,C", "LD L,D", "LD L,E", "LD L,H", "LD L,L", "LD L,(HL)", "LD L,A"⟩

/-- Mnemonics of 0x70 to 0x7F as R85 spells them. -/
def mnemonicRow7 : Row String :=
  ⟨"LD (HL),B", "LD (HL),C", "LD (HL),D", "LD (HL),E", "LD (HL),H", "LD (HL),L", "HALT", "LD (HL),A",
   "LD A,B", "LD A,C", "LD A,D", "LD A,E", "LD A,H", "LD A,L", "LD A,(HL)", "LD A,A"⟩

/-- Mnemonics of 0x80 to 0x8F as R85 spells them. -/
def mnemonicRow8 : Row String :=
  ⟨"ADD A,B", "ADD A,C", "ADD A,D", "ADD A,E", "ADD A,H", "ADD A,L", "ADD A,(HL)", "ADD A,A",
   "ADC A,B", "ADC A,C", "ADC A,D", "ADC A,E", "ADC A,H", "ADC A,L", "ADC A,(HL)", "ADC A,A"⟩

/-- Mnemonics of 0x90 to 0x9F as R85 spells them. -/
def mnemonicRow9 : Row String :=
  ⟨"SUB B", "SUB C", "SUB D", "SUB E", "SUB H", "SUB L", "SUB (HL)", "SUB A",
   "SBC A,B", "SBC A,C", "SBC A,D", "SBC A,E", "SBC A,H", "SBC A,L", "SBC A,(HL)", "SBC A,A"⟩

/-- Mnemonics of 0xA0 to 0xAF as R85 spells them. -/
def mnemonicRowA : Row String :=
  ⟨"AND B", "AND C", "AND D", "AND E", "AND H", "AND L", "AND (HL)", "AND A",
   "XOR B", "XOR C", "XOR D", "XOR E", "XOR H", "XOR L", "XOR (HL)", "XOR A"⟩

/-- Mnemonics of 0xB0 to 0xBF as R85 spells them. -/
def mnemonicRowB : Row String :=
  ⟨"OR B", "OR C", "OR D", "OR E", "OR H", "OR L", "OR (HL)", "OR A",
   "CP B", "CP C", "CP D", "CP E", "CP H", "CP L", "CP (HL)", "CP A"⟩

/-- Mnemonics of 0xC0 to 0xCF as R85 spells them. -/
def mnemonicRowC : Row String :=
  ⟨"RET NZ", "POP BC", "JP NZ,a16", "JP a16", "CALL NZ,a16", "PUSH BC", "ADD A,d8", "RST 0x00",
   "RET Z", "RET", "JP Z,a16", "PREFIX CB", "CALL Z,a16", "CALL a16", "ADC A,d8", "RST 0x08"⟩

/-- Mnemonics of 0xD0 to 0xDF as R85 spells them. -/
def mnemonicRowD : Row String :=
  ⟨"RET NC", "POP DE", "JP NC,a16", "UNKNOWN", "CALL NC,a16", "PUSH DE", "SUB d8", "RST 0x10",
   "RET C", "RETI", "JP C,a16", "UNKNOWN", "CALL C,a16", "UNKNOWN", "SBC A,d8", "RST 0x18"⟩

/-- Mnemonics of 0xE0 to 0xEF as R85 spells them. -/
def mnemonicRowE : Row String :=
  ⟨"LDH (a8),A", "POP HL", "LD (C),A", "UNKNOWN", "UNKNOWN", "PUSH HL", "AND d8", "RST 0x20",
   "ADD SP,e8", "JP HL", "LD (a16),A", "UNKNOWN", "UNKNOWN", "UNKNOWN", "XOR d8", "RST 0x28"⟩

/-- Mnemonics of 0xF0 to 0xFF as R85 spells them. -/
def mnemonicRowF : Row String :=
  ⟨"LDH A,(a8)", "POP AF", "LD A,(C)", "DI", "UNKNOWN", "PUSH AF", "OR d8", "RST 0x30",
   "LD HL,SP+e8", "LD SP,HL", "LD A,(a16)", "EI", "UNKNOWN", "UNKNOWN", "CP d8", "RST 0x38"⟩

/-- The descriptors' mnemonics (R85, R92). -/
def mnemonicTable : Row (Row String) :=
  ⟨mnemonicRow0, mnemonicRow1, mnemonicRow2, mnemonicRow3, mnemonicRow4, mnemonicRow5, mnemonicRow6, mnemonicRow7,
   mnemonicRow8, mnemonicRow9, mnemonicRowA, mnemonicRowB, mnemonicRowC, mnemonicRowD, mnemonicRowE, mnemonicRowF⟩

/-- The mnemonic of a primary opcode, which the trace carries (R92, R275): "PREFIX CB" for every CB instruction. -/
def mnemonic (op : Byte) : String :=
  mnemonicTable.at256 op

/-- 8 for a register operand, `m` for (HL): how the CB costs of R300 depend on the operand. -/
def Loc8.cost (m : Nat) : Loc8 → Nat
  | .reg _ => 8
  | .atHl => m

/-- T-cycles as taken (R300); none for UNKNOWN. Metadata: no rule reads it (R92). -/
def Form.cycles : Form → Option Nat
  | .nop => some 4
  | .halt => some 4
  | .stop _ => some 4
  | .di => some 4
  | .ei => some 4
  | .daa => some 4
  | .cpl => some 4
  | .scf => some 4
  | .ccf => some 4
  | .rlca => some 4
  | .rrca => some 4
  | .rla => some 4
  | .rra => some 4
  | .jpHl => some 4
  | .ldRegReg _ _ => some 4
  | .prefixCb _ => some 4
  | .inc8 (.reg _) => some 4
  | .dec8 (.reg _) => some 4
  | .aluReg _ (.reg _) => some 4
  | .aluReg _ .atHl => some 8
  | .aluImm _ _ => some 8
  | .ldRegImm _ _ => some 8
  | .ldRegMem _ => some 8
  | .ldMemReg _ => some 8
  | .ldAccPtr _ => some 8
  | .stAccPtr _ => some 8
  | .stAccHighC => some 8
  | .ldAccHighC => some 8
  | .stAccHlInc => some 8
  | .stAccHlDec => some 8
  | .ldAccHlInc => some 8
  | .ldAccHlDec => some 8
  | .addHl _ => some 8
  | .inc16 _ => some 8
  | .dec16 _ => some 8
  | .ldSpHl => some 8
  | .ldMemImm _ => some 12
  | .inc8 .atHl => some 12
  | .dec8 .atHl => some 12
  | .stAccHigh _ => some 12
  | .ldAccHigh _ => some 12
  | .ldPairImm _ _ => some 12
  | .pop _ => some 12
  | .ldHlSp _ => some 12
  | .jr _ => some 12
  | .jrCond _ _ => some 12
  | .ldAccAbs _ => some 16
  | .stAccAbs _ => some 16
  | .push _ => some 16
  | .addSp _ => some 16
  | .jp _ => some 16
  | .jpCond _ _ => some 16
  | .ret => some 16
  | .reti => some 16
  | .rst _ => some 16
  | .stSpAbs _ => some 20
  | .retCond _ => some 20
  | .call _ => some 24
  | .callCond _ _ => some 24
  | .shift _ dst => some (dst.cost 16)
  | .bit _ src => some (src.cost 12)
  | .res _ dst => some (dst.cost 16)
  | .set _ dst => some (dst.cost 16)
  | .unknown _ => none

/-- T-cycles of a conditional form whose condition is false (R300). -/
def Form.cyclesNotTaken : Form → Option Nat
  | .jrCond _ _ => some 8
  | .retCond _ => some 8
  | .jpCond _ _ => some 12
  | .callCond _ _ => some 12
  | _ => none

/-- The bytes of a word that the host numbers as spec/opcode_table.json does (log entry 10): a 16-bit CB row has its
first byte in bits 15:8 (R87); every other row has its first byte in bits 7:0. Bits above `nbits` are zero and the
list is as long as the longest instruction. -/
def tableBytes (nbits w : Nat) : List Byte :=
  let v := w % 2 ^ nbits
  if nbits = 16 ∧ v / 256 = 0xCB then [0xCB, BitVec.ofNat 8 v, 0]
  else [BitVec.ofNat 8 v, BitVec.ofNat 8 (v / 256), BitVec.ofNat 8 (v / 65536)]

/-- The instruction the decoder reads from a table word. -/
def decodeTableWord (nbits w : Nat) : Option Instr :=
  match decode (tableBytes nbits w) with
  | .ok (i, _) => some i
  | .error _ => none

end Sys2Proof
end

