-- ==== Sys2Proof/Machine/Memory.lean ====
section
/-! DEFINITION. The backing storage of the Memory Unit (20_memory.md R71; 70_reset_and_hazards.md R294), as plain data: a list of
(address, byte) cells with strictly rising addresses below 65536 and no cell that holds what an unlisted address
reads as. -/

namespace Sys2Proof.Machine

/-- The kind of an address: that of the first region that holds it, and RAM outside every region. No region at all is
FlatRAM (R71). -/
def kindIn : List Region → Word → RegionKind
  | [], _ => .ram
  | r :: rest, a => if r.base.toNat ≤ a.toNat ∧ a.toNat < r.base.toNat + r.size then r.kind else kindIn rest a

/-- The contents of the Memory Unit's RAM and ROM; of all of it where it is FlatRAM (R71, log entry 1). -/
abbrev Memory := List Host.Cell

/-- What an address that no cell lists reads as. DESIGN CHOICE (log entry 2): R290 leaves the contents at power-up to the
Memory Unit; the vectors of 95_test_vectors.md take zero. -/
def Memory.unlisted : Byte := 0x00

/-- `mem[a]` (R71). -/
def Memory.read : Memory → Nat → Byte
  | [], _ => Memory.unlisted
  | (k, v) :: rest, a => if k = a then v else Memory.read rest a

/-- Puts a cell in its place, over an older cell of the same address. -/
def Memory.insert : Memory → Nat → Byte → Memory
  | [], a, v => [(a, v)]
  | (k, w) :: rest, a, v =>
    if a < k then (a, v) :: (k, w) :: rest
    else if a = k then (a, v) :: rest
    else (k, w) :: Memory.insert rest a v

/-- `mem[a] <- v` (R71), keeping the canonical form: the value an unlisted address reads as is not listed. -/
def Memory.write (m : Memory) (a : Nat) (v : Byte) : Memory :=
  if v = Memory.unlisted then m.filter (fun c => decide (c.1 ≠ a)) else Memory.insert m a v

/-- Memory after a core write of a byte: RAM takes it, ROM does not, and an external region keeps its own state (R51, R71). -/
def Memory.store (m : Memory) (kind : RegionKind) (a : Nat) (v : Byte) : Memory :=
  match kind with
  | .ram => m.write a v
  | .rom => m
  | .external => m

/-- Raw bytes put into memory from an address on, wrapping at the top (R60). -/
def placeBytes (m : Memory) (a : Word) : List Byte → Memory
  | [] => m
  | b :: rest => placeBytes (m.write a.toNat b) (a + 1) rest

/-- The canonical form, from a lower bound for the first address. -/
def Memory.wfFrom : Nat → Memory → Bool
  | _, [] => true
  | lo, (k, v) :: rest =>
    decide (lo ≤ k) && decide (k < 65536) && decide (v ≠ Memory.unlisted) && Memory.wfFrom (k + 1) rest

/-- The canonical form. -/
def Memory.wf (m : Memory) : Bool := Memory.wfFrom 0 m

end Sys2Proof.Machine
end

