-- ==== Sys2Proof/Machine/State.lean ====
section
/-! DEFINITION. The state of the core as plain data (10_state.md, 60_exceptions.md), its value after Reset and at
power-up, and the reasons a step could stop. -/

namespace Sys2Proof.Machine

/-- The scheduler states (R37, R260). Paused is the wait of step 5 and Stepping the wait of step 6; both carry the opcode
that the waiting iteration has read, which is not read again after the wait (R266). -/
inductive Sched where
  | idle
  | running
  | stepping (opcode : Byte)
  | paused (opcode : Byte)
  /-- Halted(fatal) -/
  | halted
  /-- Stopped(normal) -/
  | stopped
  deriving DecidableEq, Repr

/-- The record of a DecodeError (R41, R240). -/
structure FatalRecord where
  opcode : Byte
  pc : Word
  deriving DecidableEq, Repr

/-- The register snapshot (R49, R275). -/
structure Snapshot where
  af : Word
  bc : Word
  de : Word
  hl : Word
  sp : Word
  pc : Word
  ime : Bool
  deriving DecidableEq, Repr

/-- The output events (R275). The text of log records and alerts is no part of the hardware. -/
inductive Event where
  | info (mnemonic : String) (opcAddr : Word)
  | debugSnapshot (s : Snapshot)
  | snapshot (s : Snapshot)
  | warning (mnemonic : String) (opcAddr : Word)
  | error (opcode : Byte) (opcAddr : Word)
  | alert (opcode : Byte) (opcAddr : Word)
  deriving DecidableEq, Repr

/-- What the host does that changes state: the control calls (R268 to R274) and the load of bytes into the Memory Unit
(R280, R294; log entry 16). The query IsBreakpointEnabled is
`State.isBreakpointEnabled` (Scheduler.lean). -/
inductive HostCall where
  | start (debugMode : Bool)
  | stop
  | pause
  | resume
  | singleStep
  | setStickyStep (b : Bool)
  | reset
  | addBreakpoint (addr : Word)
  | removeBreakpoint (addr : Word)
  | load (addr : Word) (bytes : List Byte)
  deriving DecidableEq, Repr

/-- Everything the spec gives the machine (10_state.md), the observation (R275, R278), the inputs still to come (R248, R281)
and the parameters (R6). -/
structure State where
  /-- A and F; F[3:0] is kept 0 by every write (R27) -/
  af : Word
  bc : Word
  de : Word
  hl : Word
  sp : Word
  pc : Word
  /-- masterEnable (R33) -/
  ime : Bool
  /-- IE, enableMask (R34) -/
  ieReg : Byte
  /-- IF, pendingFlags; bits 7:5 are not stored (R34) -/
  ifReg : Byte
  /-- ei_shadow (R35) -/
  eiShadow : Bool
  /-- halt_wait (R36) -/
  haltWait : Bool
  /-- halt_repeat (R36, R224) -/
  haltRepeat : Bool
  /-- sched (R37) -/
  sched : Sched
  /-- running (R38) -/
  running : Bool
  /-- paused (R39) -/
  paused : Bool
  /-- debugMode (R39) -/
  debugMode : Bool
  /-- stepArmed, the document's singleStepArmed (R39) -/
  stepArmed : Bool
  /-- stickyStep (R39) -/
  stickyStep : Bool
  /-- advance (R39, R271) -/
  advance : Bool
  /-- the breakpoint set, as a strictly rising list (R40) -/
  breakpoints : List Word
  /-- fatal (R41) -/
  fatal : Option FatalRecord
  /-- the Memory Unit's RAM and ROM (R71, R294; log entry 1) -/
  mem : Memory
  /-- what has reached the Memory Unit, oldest first: requests and loads (R64, R294; log entry 6) -/
  bus : List Request
  /-- the events emitted, oldest first (R275, R278; log entry 6) -/
  events : List Event
  /-- the host calls that arrive before each coming observation, one batch an observation (R281; log entry 5) -/
  hostCalls : List (List HostCall)
  /-- what P_IRQ gives at each coming boundary evaluation; 0 when the list has ended (R248; log entry 4) -/
  irqs : List (BitVec 5)
  /-- the parameters (R6; log entry 3) -/
  params : Params
  deriving DecidableEq, Repr

/-- Why a step could stop the machine. It has no constructor: the core has no fault but DecodeError (R243), which the
model takes as a next state (R240, log entry 8), so no definition raises one and that is safe. -/
inductive Fault where
  deriving DecidableEq, Repr

/-- Why an instruction could have no meaning. -/
inductive Refusal where
  /-- Raised only by an arm of `exec` whose instruction has no meaning yet; no arm is left so. Safe. -/
  | notModelled (mnemonic : String)
  deriving DecidableEq, Repr

/-- The state after Reset (R44 to R47, R291): the power-up values with flag Z cleared, nothing running, no breakpoint,
memory with nothing listed (log entry 2), no input to come and the default parameters. -/
def State.reset : State where
  af := Config.resetAF
  bc := Config.powerUpBC
  de := Config.powerUpDE
  hl := Config.powerUpHL
  sp := Config.powerUpSP
  pc := Config.powerUpPC
  ime := false
  ieReg := 0x00
  ifReg := 0x00
  eiShadow := false
  haltWait := false
  haltRepeat := false
  sched := .idle
  running := false
  paused := false
  debugMode := false
  stepArmed := false
  stickyStep := false
  advance := false
  breakpoints := []
  fatal := none
  mem := []
  bus := []
  events := []
  hostCalls := []
  irqs := []
  params := Params.defaults

/-- The state at power-up (R290): that of Reset but for flag Z (R47). -/
def State.powerUp : State := { State.reset with af := Config.powerUpAF }

end Sys2Proof.Machine
end

