-- ==== Sys2Proof/Machine/Flags.lean ====
section
/-! DEFINITION. The flag register (10_state.md R26 to R28) and every flag-aware primitive: 41_alu8.md R130 to R139, DAA
(R158), 42_alu16.md R166 and R170, the rotates and shifts of 43_rotate_shift.md and the bit operations of 44_bit.md. -/

namespace Sys2Proof.Machine

/-- The four flags. A flag argument is one of these, so no invalid mask can be passed (R28). -/
inductive Flag where
  | z | n | h | c
  deriving DecidableEq, Repr

/-- The bit of F that holds a flag (R26). -/
def Flag.position : Flag → Nat
  | .z => 7
  | .n => 6
  | .h => 5
  | .c => 4

/-- A read of AF: bits 3:0 read as 0 (R27). -/
def State.regAF (s : State) : Word := s.af &&& 0xFFF0#16

/-- A read of F (R26, R27). -/
def State.regF (s : State) : Byte := loByte s.regAF

/-- A write of AF: what is stored has bits 3:0 zero (R24, R27). -/
def State.setAF (s : State) (v : Word) : State := { s with af := v &&& 0xFFF0#16 }

/-- FlagIsSet (R26, R28). -/
def State.flag (s : State) (f : Flag) : Bool := s.regF.getLsbD f.position

/-- F from its four flags (R26, R27). -/
def flagByte (z n h c : Bool) : Byte :=
  BitVec.ofBool z ++ BitVec.ofBool n ++ BitVec.ofBool h ++ BitVec.ofBool c ++ 0#4

/-- What an operation does to the four flags; `none` is the spec's `-`, unchanged (41_alu8.md). -/
structure FlagWrite where
  z : Option Bool
  n : Option Bool
  h : Option Bool
  c : Option Bool
  deriving DecidableEq, Repr

/-- WriteFlags (41_alu8.md section 1): each flag that has a value gets it and no other bit of AF changes. -/
def State.writeFlags (s : State) (w : FlagWrite) : State :=
  s.setAF (joinBytes (hiByte s.af)
    (flagByte (w.z.getD (s.flag .z)) (w.n.getD (s.flag .n)) (w.h.getD (s.flag .h)) (w.c.getD (s.flag .c))))

/-- The write of one flag. -/
def FlagWrite.only (f : Flag) (b : Bool) : FlagWrite where
  z := if f = .z then some b else none
  n := if f = .n then some b else none
  h := if f = .h then some b else none
  c := if f = .c then some b else none

/-- FlagSet (R28). -/
def State.flagSet (s : State) (f : Flag) : State := s.writeFlags (.only f true)

/-- FlagClear (R28). -/
def State.flagClear (s : State) (f : Flag) : State := s.writeFlags (.only f false)

/-- A u8 result with its flags. -/
structure AluResult where
  value : Byte
  flags : FlagWrite
  deriving DecidableEq, Repr

/-- A u16 result with its flags. -/
structure Alu16Result where
  value : Word
  flags : FlagWrite
  deriving DecidableEq, Repr

/-- The low nibble as a number. -/
def lowNibble (v : Byte) : Nat := (v &&& 0x0F).toNat

/-- A bit as a number. -/
def bitNat (b : Bool) : Nat := if b then 1 else 0

/-- A bit in bit 0 of a byte. -/
def bitByte (b : Bool) : Byte := if b then 0x01 else 0x00

/-- Increment (R130). -/
def increment (v : Byte) : AluResult where
  value := v + 1
  flags := ⟨some (decide (v + 1 = 0)), some false, some (decide (v &&& 0x0F = 0x0F)), none⟩

/-- Decrement (R131). -/
def decrement (v : Byte) : AluResult where
  value := v - 1
  flags := ⟨some (decide (v - 1 = 0)), some true, some (decide (v &&& 0x0F = 0x00)), none⟩

/-- Adc8 (R133). -/
def adc8 (a b : Byte) (c : Bool) : AluResult :=
  let s := a.toNat + b.toNat + bitNat c
  let r := BitVec.ofNat 8 s
  ⟨r, ⟨some (decide (r = 0)), some false, some (decide (lowNibble a + lowNibble b + bitNat c > 15)),
    some (decide (s > 255))⟩⟩

/-- Add8 (R132). -/
def add8 (a b : Byte) : AluResult :=
  let s := a.toNat + b.toNat
  let r := BitVec.ofNat 8 s
  ⟨r, ⟨some (decide (r = 0)), some false, some (decide (lowNibble a + lowNibble b > 15)), some (decide (s > 255))⟩⟩

/-- Sub8 (R134). -/
def sub8 (a b : Byte) : AluResult :=
  let r := a - b
  ⟨r, ⟨some (decide (r = 0)), some true, some (decide (lowNibble a < lowNibble b)), some (decide (a.toNat < b.toNat))⟩⟩

/-- Sbc8 (R135). -/
def sbc8 (a b : Byte) (c : Bool) : AluResult :=
  let r := a - b - bitByte c
  ⟨r, ⟨some (decide (r = 0)), some true, some (decide (lowNibble a < lowNibble b + bitNat c)),
    some (decide (a.toNat < b.toNat + bitNat c))⟩⟩

/-- And8 (R136): H is set. -/
def and8 (a b : Byte) : AluResult := ⟨a &&& b, ⟨some (decide (a &&& b = 0)), some false, some true, some false⟩⟩

/-- Xor8 (R137). -/
def xor8 (a b : Byte) : AluResult := ⟨a ^^^ b, ⟨some (decide (a ^^^ b = 0)), some false, some false, some false⟩⟩

/-- Or8 (R138). -/
def or8 (a b : Byte) : AluResult := ⟨a ||| b, ⟨some (decide (a ||| b = 0)), some false, some false, some false⟩⟩

/-- Cp8 (R139): the flags of Sub8; the first operand is the value left in A. -/
def cp8 (a b : Byte) : AluResult := ⟨a, (sub8 a b).flags⟩

/-- The primitive that an alu_op code names (R84), with the carry in. -/
def aluPrimitive (op : AluOp) (a b : Byte) (c : Bool) : AluResult :=
  match op with
  | .add => add8 a b
  | .adc => adc8 a b c
  | .sub => sub8 a b
  | .sbc => sbc8 a b c
  | .and => and8 a b
  | .xor => xor8 a b
  | .or => or8 a b
  | .cp => cp8 a b

/-- The decimal correction of A from the flags N, H and C (R158). -/
def daa8 (a : Byte) (n h c : Bool) : AluResult :=
  let high : Bool := c || decide (a.toNat > 0x99)
  let low : Bool := h || decide (lowNibble a > 0x09)
  let up : Byte := (if high then 0x60 else 0x00) + (if low then 0x06 else 0x00)
  let down : Byte := (if c then 0x60 else 0x00) + (if h then 0x06 else 0x00)
  let r := if n then a - down else a + up
  ⟨r, ⟨some (decide (r = 0)), none, some false, some (if n then c else high)⟩⟩

/-- Add16 (R166): Z is left, H is the carry out of bit 11. -/
def add16 (a b : Word) : Alu16Result :=
  let s := a.toNat + b.toNat
  ⟨BitVec.ofNat 16 s,
    ⟨none, some false, some (decide ((a &&& 0x0FFF).toNat + (b &&& 0x0FFF).toNat > 0x0FFF)), some (decide (s > 65535))⟩⟩

/-- AddSP (R170): the flags come from an unsigned add of n to the low byte of SP. -/
def addSpOffset (sp : Word) (n : Byte) : Alu16Result :=
  ⟨sp + sext16 n,
    ⟨some false, some false, some (decide ((sp &&& 0x000F).toNat + lowNibble n > 0x0F)),
      some (decide ((sp &&& 0x00FF).toNat + n.toNat > 0xFF))⟩⟩

/-- The flags of a rotate or shift (R178 to R185): Z from the result, N and H clear, C the bit shifted out. -/
def shiftResult (r : Byte) (c : Bool) : AluResult := ⟨r, ⟨some (decide (r = 0)), some false, some false, some c⟩⟩

/-- The operation of CB group 00 on a value, with the carry flag before it (R178 to R185). -/
def shiftPrimitive (op : ShiftOp) (v : Byte) (c : Bool) : AluResult :=
  match op with
  | .rlc => shiftResult ((v <<< 1) ||| bitByte (v.getLsbD 7)) (v.getLsbD 7)
  | .rrc => shiftResult ((v >>> 1) ||| (bitByte (v.getLsbD 0) <<< 7)) (v.getLsbD 0)
  | .rl => shiftResult ((v <<< 1) ||| bitByte c) (v.getLsbD 7)
  | .rr => shiftResult ((v >>> 1) ||| (bitByte c <<< 7)) (v.getLsbD 0)
  | .sla => shiftResult (v <<< 1) (v.getLsbD 7)
  | .sra => shiftResult ((v >>> 1) ||| (v &&& 0x80)) (v.getLsbD 0)
  | .swap => shiftResult (((v &&& 0x0F) <<< 4) ||| (v >>> 4)) false
  | .srl => shiftResult (v >>> 1) (v.getLsbD 0)

/-- An accumulator rotate: the same bit movement with Z cleared (R173 to R176). -/
def accRotate (op : ShiftOp) (v : Byte) (c : Bool) : AluResult :=
  let r := shiftPrimitive op v c
  ⟨r.value, { r.flags with z := some false }⟩

/-- BIT's flags (R190). -/
def bitFlags (b : BitVec 3) (v : Byte) : FlagWrite := ⟨some (!v.getLsbD b.toNat), some false, some true, none⟩

/-- RES's result (R191). -/
def clearBit (b : BitVec 3) (v : Byte) : Byte := v &&& ~~~(1#8 <<< b.toNat)

/-- SET's result (R192). -/
def setBit (b : BitVec 3) (v : Byte) : Byte := v ||| (1#8 <<< b.toNat)

end Sys2Proof.Machine
end

