-- ==== Sys2Proof/Machine/Ops.lean ====
section
/-! DEFINITION. The named operations over memory and events (20_memory.md), the snapshot (R49), the one exception of the core
(60_exceptions.md R240), interrupt entry (R249 to R253) and the return from it (45_control.md R210). -/

namespace Sys2Proof.Machine

/-- A core access to this address goes to IE (R66). -/
def State.reachesIE (s : State) (a : Word) : Bool := s.params.ieIfMapped && decide (a = Config.ieAddress)

/-- A core access to this address goes to IF (R66). -/
def State.reachesIF (s : State) (a : Word) : Bool := s.params.ieIfMapped && decide (a = Config.ifAddress)

/-- How the Memory Unit behaves at an address (P_MEM: R6, R51). -/
def State.kind (s : State) (a : Word) : RegionKind := kindIn s.params.memoryMap a

/-- A core access to this address goes to a part of the Memory Unit that is neither RAM nor ROM. -/
def State.external (s : State) (a : Word) : Bool :=
  !s.reachesIE a && !s.reachesIF a && decide (s.kind a = .external)

/-- What a core ReadByte of an address answers (R11, R51, R66, R71). An external region answers by all that has reached the
unit before this read. -/
def State.peek (s : State) (a : Word) : Byte :=
  if s.reachesIE a then s.ieReg
  else if s.reachesIF a then Config.ifHighBits ||| (s.ifReg &&& Config.irqMask)
  else
    match s.kind a with
    | .ram => s.mem.read a.toNat
    | .rom => s.mem.read a.toNat
    | .external => Config.memoryUnit s.bus a

/-- The request of a core ReadByte: a mapped address makes none (R66). -/
def State.noteRead (s : State) (a : Word) : State :=
  if s.reachesIE a || s.reachesIF a then s else { s with bus := s.bus ++ [.read a] }

/-- What an address answers to a ReadByte made right after the ReadByte of the address below it (R52). -/
def State.peekNext (s : State) (a : Word) : Byte := (s.noteRead a).peek (a + 1)

/-- `MemWrite(a, 1, v)`, by itself or as a byte write of a WriteShort (R11, R51, R66, R71). -/
def State.writeByte (s : State) (a : Word) (v : Byte) (call : WriteCall := .byte) : State :=
  if s.reachesIE a then { s with ieReg := v }
  else if s.reachesIF a then { s with ifReg := v &&& Config.irqMask }
  else { s with mem := s.mem.store (s.kind a) a.toNat v, bus := s.bus ++ [.write call a v] }

/-- `MemWrite(a, 2, v)`: v[7:0] at a and v[15:8] at a+1, in the order of P_SHORT_WRITE_ORDER (R54, R55). -/
def State.writeShort (s : State) (a : Word) (v : Word) : State :=
  match s.params.shortWriteOrder with
  | .lowFirst => (s.writeByte a (loByte v) .short).writeByte (a + 1) (hiByte v) .short
  | .highFirst => (s.writeByte (a + 1) (hiByte v) .short).writeByte a (loByte v) .short

/-- Push16 (R57). -/
def State.push16 (s : State) (v : Word) : State :=
  { s with sp := s.sp - 2 }.writeShort (s.sp - 2) v

/-- The value Pop16 returns: the byte at SP, read first, is the low one (R58). -/
def State.popValue (s : State) : Word := joinBytes (s.peekNext s.sp) (s.peek s.sp)

/-- The state Pop16 leaves: two reads made, low byte first, and SP two higher (R58). -/
def State.afterPop (s : State) : State :=
  let t := (s.noteRead s.sp).noteRead (s.sp + 1)
  { t with sp := t.sp + 2 }

/-- `emit` (R12, R275). -/
def State.emit (s : State) (e : Event) : State := { s with events := s.events ++ [e] }

/-- The register snapshot (R49, D31). -/
def State.snapshot (s : State) : Snapshot where
  af := s.regAF
  bc := s.bc
  de := s.de
  hl := s.hl
  sp := s.sp
  pc := s.pc
  ime := s.ime

/-- The session bits cleared, as at every loop exit (R278). -/
def State.clearSession (s : State) : State :=
  { s with paused := false, debugMode := false, stepArmed := false, stickyStep := false, advance := false }

/-- DecodeError, the one exception: it names the opcode and the pc, which is the opcode's address, and ends the run in
Halted(fatal) (R240, R235, R278; log entry 8). -/
def State.raiseDecodeError (s : State) (opcode : Byte) : State :=
  let t := { s with fatal := some ⟨opcode, s.pc⟩ }
  let u := (t.emit (.error opcode s.pc)).emit (.alert opcode s.pc)
  { u.clearSession with running := false, sched := .halted }

/-- The enabled pending requests, `IE & IF & 0x1F` (R222, R249). -/
def State.pendingMask (s : State) : Byte := s.ieReg &&& s.ifReg &&& Config.irqMask

/-- The lowest set bit of a mask that is not 0 (R249, R251). -/
def lowestIrq (p : Byte) : Nat :=
  if p.getLsbD 0 then 0
  else if p.getLsbD 1 then 1
  else if p.getLsbD 2 then 2
  else if p.getLsbD 3 then 3
  else 4

/-- The vector of interrupt k (R245). -/
def irqVector (k : Nat) : Word := BitVec.ofNat 16 (0x0040 + 8 * k)

/-- PollPending (R249): a pure query. -/
def State.pollPending (s : State) : Option Word :=
  if !s.ime || decide (s.pendingMask = 0) then none else some (irqVector (lowestIrq s.pendingMask))

/-- Interrupt entry at vector t: IF loses the bit, IME is cleared, pc is pushed, pc becomes the vector, and a Snapshot is
emitted (R250, R253). -/
def State.enterInterrupt (s : State) (t : Word) : State :=
  let k := (t.toNat - 0x0040) / 8
  let u := { s with ifReg := s.ifReg &&& ~~~(1#8 <<< k), ime := false }
  let v := { u.push16 u.pc with pc := t }
  v.emit (.snapshot v.snapshot)

/-- Dispatch (R250). -/
def State.dispatch (s : State) : State :=
  if s.params.dispatch = .sm83 ∧ s.eiShadow = false then
    match s.pollPending with
    | some t => s.enterInterrupt t
    | none => s
  else s

/-- The return from an interrupt: pc is popped and IME set with no delay (R210, R254). -/
def State.returnFromInterrupt (s : State) : State :=
  { s.afterPop with pc := s.popValue, ime := true }

end Sys2Proof.Machine
end

