-- ==== Sys2Proof/Machine/Operands.lean ====
section
/-! DEFINITION. Every operand form: the 8-bit views (10_state.md R22, R23), the pairs (R24, R81, R82), the (HL) operand
(30_encoding.md R80), the pointer and I/O-page addresses (R59, R78) and the conditions (R83). -/

namespace Sys2Proof.Machine

/-- `x[r]` for an 8-bit register (R22). -/
def State.readReg (s : State) : Reg8 → Byte
  | .b => hiByte s.bc
  | .c => loByte s.bc
  | .d => hiByte s.de
  | .e => loByte s.de
  | .h => hiByte s.hl
  | .l => loByte s.hl
  | .a => hiByte s.af

/-- `x[r] <- v`: the other byte of the pair stays (R23). -/
def State.writeReg (s : State) (r : Reg8) (v : Byte) : State :=
  match r with
  | .b => { s with bc := joinBytes v (loByte s.bc) }
  | .c => { s with bc := joinBytes (hiByte s.bc) v }
  | .d => { s with de := joinBytes v (loByte s.de) }
  | .e => { s with de := joinBytes (hiByte s.de) v }
  | .h => { s with hl := joinBytes v (loByte s.hl) }
  | .l => { s with hl := joinBytes (hiByte s.hl) v }
  | .a => s.setAF (joinBytes v (loByte s.af))

/-- `x[rr]` (R24, R81). -/
def State.readPair (s : State) : Pair → Word
  | .bc => s.bc
  | .de => s.de
  | .hl => s.hl
  | .sp => s.sp

/-- `x[rr] <- v` (R24, R81). -/
def State.writePair (s : State) (rr : Pair) (v : Word) : State :=
  match rr with
  | .bc => { s with bc := v }
  | .de => { s with de := v }
  | .hl => { s with hl := v }
  | .sp => { s with sp := v }

/-- `x[rr]` for PUSH (R82): F reads with bits 3:0 zero (R27). -/
def State.readStackPair (s : State) : StackPair → Word
  | .bc => s.bc
  | .de => s.de
  | .hl => s.hl
  | .af => s.regAF

/-- `x[rr] <- v` for POP (R82): a write of AF masks F (R27). -/
def State.writeStackPair (s : State) (rr : StackPair) (v : Word) : State :=
  match rr with
  | .bc => { s with bc := v }
  | .de => { s with de := v }
  | .hl => { s with hl := v }
  | .af => s.setAF v

/-- The address in BC or DE (R105 to R108). -/
def State.readPtr (s : State) : PtrPair → Word
  | .bc => s.bc
  | .de => s.de

/-- The value of an 8-bit operand (R80). -/
def State.readLoc (s : State) : Loc8 → Byte
  | .reg r => s.readReg r
  | .atHl => s.peek s.hl

/-- The request that reading an 8-bit operand makes (R62, R80). -/
def State.noteLoc (s : State) : Loc8 → State
  | .reg _ => s
  | .atHl => s.noteRead s.hl

/-- `write_r8` (R80). -/
def State.writeLoc (s : State) (l : Loc8) (v : Byte) : State :=
  match l with
  | .reg r => s.writeReg r v
  | .atHl => s.writeByte s.hl v

/-- 0xFF00 + zext_16(offset) (R59). -/
def highAddress (offset : Byte) : Word := Config.ioPage + zext16 offset

/-- Whether a condition holds (R83). -/
def State.holds (s : State) : Cond → Bool
  | .nz => !s.flag .z
  | .z => s.flag .z
  | .nc => !s.flag .c
  | .c => s.flag .c

end Sys2Proof.Machine
end

