-- ==== Sys2Proof/Machine/Load.lean ====
section
/-! DEFINITION. Loads, stores and stack transfers (40_load.md R100 to R124): one operation per rule or rule pair, then one
meaning per instruction. In every meaning `pc` is already the address of the next instruction (30_encoding.md R75). -/

namespace Sys2Proof.Machine

/-- What a meaning answers. -/
abbrev Result := Host.Outcome State Fault Refusal

/-- `x[dst] <- x[src]` (R100). -/
def ldRegReg (dst src : Reg8) (s : State) : State := s.writeReg dst (s.readReg src)

/-- `x[dst] <- n` (R101). -/
def ldRegImm (dst : Reg8) (n : Byte) (s : State) : State := s.writeReg dst n

/-- `x[dst] <- MemRead(x[HL], 1)`, the address taken before the write (R102). -/
def ldRegMem (dst : Reg8) (s : State) : State := (s.noteRead s.hl).writeReg dst (s.peek s.hl)

/-- `MemWrite(x[HL], 1, x[src])` (R103). -/
def ldMemReg (src : Reg8) (s : State) : State := s.writeByte s.hl (s.readReg src)

/-- `MemWrite(x[HL], 1, n)` (R104). -/
def ldMemImm (n : Byte) (s : State) : State := s.writeByte s.hl n

/-- `x[A] <- MemRead(a, 1)`: the loads of A through an address (R105, R106, R109, R112, R114). -/
def loadAcc (a : Word) (s : State) : State := (s.noteRead a).writeReg .a (s.peek a)

/-- `MemWrite(a, 1, x[A])`: the stores of A through an address (R107, R108, R110, R111, R113). -/
def storeAcc (a : Word) (s : State) : State := s.writeByte a (s.readReg .a)

/-- The store through HL, then HL moved by `step` (R115, R116). -/
def storeAccMove (step : Word) (s : State) : State := { storeAcc s.hl s with hl := s.hl + step }

/-- The load through HL, then HL moved by `step` (R117, R118). -/
def loadAccMove (step : Word) (s : State) : State := { loadAcc s.hl s with hl := s.hl + step }

/-- `x[rr] <- nn` (R119). -/
def ldPairImm (rr : Pair) (nn : Word) (s : State) : State := s.writePair rr nn

/-- `MemWrite(nn, 2, x[SP])` (R120). -/
def stSpAbs (nn : Word) (s : State) : State := s.writeShort nn s.sp

/-- `x[SP] <- x[HL]` (R121). -/
def ldSpHl (s : State) : State := { s with sp := s.hl }

/-- `Push16(x[rr])` (R122). -/
def pushPair (rr : StackPair) (s : State) : State := s.push16 (s.readStackPair rr)

/-- `x[rr] <- Pop16()` (R123), F masked for AF (R124). -/
def popPair (rr : StackPair) (s : State) : State := s.afterPop.writeStackPair rr s.popValue

/-- LD BC,d16 (R119). -/
def execLdBcD16 (nn : Word) (s : State) : Result := .next (ldPairImm .bc nn s)

/-- LD (BC),A (R107). -/
def execLdAtBcA (s : State) : Result := .next (storeAcc (s.readPtr .bc) s)

/-- LD B,d8 (R101). -/
def execLdBD8 (n : Byte) (s : State) : Result := .next (ldRegImm .b n s)

/-- LD (a16),SP (R120). -/
def execLdAtA16Sp (nn : Word) (s : State) : Result := .next (stSpAbs nn s)

/-- LD A,(BC) (R105). -/
def execLdAAtBc (s : State) : Result := .next (loadAcc (s.readPtr .bc) s)

/-- LD C,d8 (R101). -/
def execLdCD8 (n : Byte) (s : State) : Result := .next (ldRegImm .c n s)

/-- LD DE,d16 (R119). -/
def execLdDeD16 (nn : Word) (s : State) : Result := .next (ldPairImm .de nn s)

/-- LD (DE),A (R108). -/
def execLdAtDeA (s : State) : Result := .next (storeAcc (s.readPtr .de) s)

/-- LD D,d8 (R101). -/
def execLdDD8 (n : Byte) (s : State) : Result := .next (ldRegImm .d n s)

/-- LD A,(DE) (R106). -/
def execLdAAtDe (s : State) : Result := .next (loadAcc (s.readPtr .de) s)

/-- LD E,d8 (R101). -/
def execLdED8 (n : Byte) (s : State) : Result := .next (ldRegImm .e n s)

/-- LD HL,d16 (R119). -/
def execLdHlD16 (nn : Word) (s : State) : Result := .next (ldPairImm .hl nn s)

/-- LD (HL+),A (R115). -/
def execLdAtHlIncA (s : State) : Result := .next (storeAccMove 1 s)

/-- LD H,d8 (R101). -/
def execLdHD8 (n : Byte) (s : State) : Result := .next (ldRegImm .h n s)

/-- LD A,(HL+) (R117). -/
def execLdAAtHlInc (s : State) : Result := .next (loadAccMove 1 s)

/-- LD L,d8 (R101). -/
def execLdLD8 (n : Byte) (s : State) : Result := .next (ldRegImm .l n s)

/-- LD SP,d16 (R119). -/
def execLdSpD16 (nn : Word) (s : State) : Result := .next (ldPairImm .sp nn s)

/-- LD (HL-),A (R116). -/
def execLdAtHlDecA (s : State) : Result := .next (storeAccMove (-1) s)

/-- LD (HL),d8 (R104). -/
def execLdAtHlD8 (n : Byte) (s : State) : Result := .next (ldMemImm n s)

/-- LD A,(HL-) (R118). -/
def execLdAAtHlDec (s : State) : Result := .next (loadAccMove (-1) s)

/-- LD A,d8 (R101). -/
def execLdAD8 (n : Byte) (s : State) : Result := .next (ldRegImm .a n s)

/-- LD B,B (R100). -/
def execLdBB (s : State) : Result := .next (ldRegReg .b .b s)

/-- LD B,C (R100). -/
def execLdBC (s : State) : Result := .next (ldRegReg .b .c s)

/-- LD B,D (R100). -/
def execLdBD (s : State) : Result := .next (ldRegReg .b .d s)

/-- LD B,E (R100). -/
def execLdBE (s : State) : Result := .next (ldRegReg .b .e s)

/-- LD B,H (R100). -/
def execLdBH (s : State) : Result := .next (ldRegReg .b .h s)

/-- LD B,L (R100). -/
def execLdBL (s : State) : Result := .next (ldRegReg .b .l s)

/-- LD B,(HL) (R102). -/
def execLdBAtHl (s : State) : Result := .next (ldRegMem .b s)

/-- LD B,A (R100). -/
def execLdBA (s : State) : Result := .next (ldRegReg .b .a s)

/-- LD C,B (R100). -/
def execLdCB (s : State) : Result := .next (ldRegReg .c .b s)

/-- LD C,C (R100). -/
def execLdCC (s : State) : Result := .next (ldRegReg .c .c s)

/-- LD C,D (R100). -/
def execLdCD (s : State) : Result := .next (ldRegReg .c .d s)

/-- LD C,E (R100). -/
def execLdCE (s : State) : Result := .next (ldRegReg .c .e s)

/-- LD C,H (R100). -/
def execLdCH (s : State) : Result := .next (ldRegReg .c .h s)

/-- LD C,L (R100). -/
def execLdCL (s : State) : Result := .next (ldRegReg .c .l s)

/-- LD C,(HL) (R102). -/
def execLdCAtHl (s : State) : Result := .next (ldRegMem .c s)

/-- LD C,A (R100). -/
def execLdCA (s : State) : Result := .next (ldRegReg .c .a s)

/-- LD D,B (R100). -/
def execLdDB (s : State) : Result := .next (ldRegReg .d .b s)

/-- LD D,C (R100). -/
def execLdDC (s : State) : Result := .next (ldRegReg .d .c s)

/-- LD D,D (R100). -/
def execLdDD (s : State) : Result := .next (ldRegReg .d .d s)

/-- LD D,E (R100). -/
def execLdDE (s : State) : Result := .next (ldRegReg .d .e s)

/-- LD D,H (R100). -/
def execLdDH (s : State) : Result := .next (ldRegReg .d .h s)

/-- LD D,L (R100). -/
def execLdDL (s : State) : Result := .next (ldRegReg .d .l s)

/-- LD D,(HL) (R102). -/
def execLdDAtHl (s : State) : Result := .next (ldRegMem .d s)

/-- LD D,A (R100). -/
def execLdDA (s : State) : Result := .next (ldRegReg .d .a s)

/-- LD E,B (R100). -/
def execLdEB (s : State) : Result := .next (ldRegReg .e .b s)

/-- LD E,C (R100). -/
def execLdEC (s : State) : Result := .next (ldRegReg .e .c s)

/-- LD E,D (R100). -/
def execLdED (s : State) : Result := .next (ldRegReg .e .d s)

/-- LD E,E (R100). -/
def execLdEE (s : State) : Result := .next (ldRegReg .e .e s)

/-- LD E,H (R100). -/
def execLdEH (s : State) : Result := .next (ldRegReg .e .h s)

/-- LD E,L (R100). -/
def execLdEL (s : State) : Result := .next (ldRegReg .e .l s)

/-- LD E,(HL) (R102). -/
def execLdEAtHl (s : State) : Result := .next (ldRegMem .e s)

/-- LD E,A (R100). -/
def execLdEA (s : State) : Result := .next (ldRegReg .e .a s)

/-- LD H,B (R100). -/
def execLdHB (s : State) : Result := .next (ldRegReg .h .b s)

/-- LD H,C (R100). -/
def execLdHC (s : State) : Result := .next (ldRegReg .h .c s)

/-- LD H,D (R100). -/
def execLdHD (s : State) : Result := .next (ldRegReg .h .d s)

/-- LD H,E (R100). -/
def execLdHE (s : State) : Result := .next (ldRegReg .h .e s)

/-- LD H,H (R100). -/
def execLdHH (s : State) : Result := .next (ldRegReg .h .h s)

/-- LD H,L (R100). -/
def execLdHL (s : State) : Result := .next (ldRegReg .h .l s)

/-- LD H,(HL) (R102). -/
def execLdHAtHl (s : State) : Result := .next (ldRegMem .h s)

/-- LD H,A (R100). -/
def execLdHA (s : State) : Result := .next (ldRegReg .h .a s)

/-- LD L,B (R100). -/
def execLdLB (s : State) : Result := .next (ldRegReg .l .b s)

/-- LD L,C (R100). -/
def execLdLC (s : State) : Result := .next (ldRegReg .l .c s)

/-- LD L,D (R100). -/
def execLdLD (s : State) : Result := .next (ldRegReg .l .d s)

/-- LD L,E (R100). -/
def execLdLE (s : State) : Result := .next (ldRegReg .l .e s)

/-- LD L,H (R100). -/
def execLdLH (s : State) : Result := .next (ldRegReg .l .h s)

/-- LD L,L (R100). -/
def execLdLL (s : State) : Result := .next (ldRegReg .l .l s)

/-- LD L,(HL) (R102). -/
def execLdLAtHl (s : State) : Result := .next (ldRegMem .l s)

/-- LD L,A (R100). -/
def execLdLA (s : State) : Result := .next (ldRegReg .l .a s)

/-- LD (HL),B (R103). -/
def execLdAtHlB (s : State) : Result := .next (ldMemReg .b s)

/-- LD (HL),C (R103). -/
def execLdAtHlC (s : State) : Result := .next (ldMemReg .c s)

/-- LD (HL),D (R103). -/
def execLdAtHlD (s : State) : Result := .next (ldMemReg .d s)

/-- LD (HL),E (R103). -/
def execLdAtHlE (s : State) : Result := .next (ldMemReg .e s)

/-- LD (HL),H (R103). -/
def execLdAtHlH (s : State) : Result := .next (ldMemReg .h s)

/-- LD (HL),L (R103). -/
def execLdAtHlL (s : State) : Result := .next (ldMemReg .l s)

/-- LD (HL),A (R103). -/
def execLdAtHlA (s : State) : Result := .next (ldMemReg .a s)

/-- LD A,B (R100). -/
def execLdAB (s : State) : Result := .next (ldRegReg .a .b s)

/-- LD A,C (R100). -/
def execLdAC (s : State) : Result := .next (ldRegReg .a .c s)

/-- LD A,D (R100). -/
def execLdAD (s : State) : Result := .next (ldRegReg .a .d s)

/-- LD A,E (R100). -/
def execLdAE (s : State) : Result := .next (ldRegReg .a .e s)

/-- LD A,H (R100). -/
def execLdAH (s : State) : Result := .next (ldRegReg .a .h s)

/-- LD A,L (R100). -/
def execLdAL (s : State) : Result := .next (ldRegReg .a .l s)

/-- LD A,(HL) (R102). -/
def execLdAAtHl (s : State) : Result := .next (ldRegMem .a s)

/-- LD A,A (R100). -/
def execLdAA (s : State) : Result := .next (ldRegReg .a .a s)

/-- POP BC (R123). -/
def execPopBc (s : State) : Result := .next (popPair .bc s)

/-- PUSH BC (R122). -/
def execPushBc (s : State) : Result := .next (pushPair .bc s)

/-- POP DE (R123). -/
def execPopDe (s : State) : Result := .next (popPair .de s)

/-- PUSH DE (R122). -/
def execPushDe (s : State) : Result := .next (pushPair .de s)

/-- LDH (a8),A (R111). -/
def execLdhAtA8A (n : Byte) (s : State) : Result := .next (storeAcc (highAddress n) s)

/-- POP HL (R123). -/
def execPopHl (s : State) : Result := .next (popPair .hl s)

/-- LD (C),A (R113). -/
def execLdAtCA (s : State) : Result := .next (storeAcc (highAddress (s.readReg .c)) s)

/-- PUSH HL (R122). -/
def execPushHl (s : State) : Result := .next (pushPair .hl s)

/-- LD (a16),A (R110). -/
def execLdAtA16A (nn : Word) (s : State) : Result := .next (storeAcc nn s)

/-- LDH A,(a8) (R112). -/
def execLdhAAtA8 (n : Byte) (s : State) : Result := .next (loadAcc (highAddress n) s)

/-- POP AF (R124). -/
def execPopAf (s : State) : Result := .next (popPair .af s)

/-- LD A,(C) (R114). -/
def execLdAAtC (s : State) : Result := .next (loadAcc (highAddress (s.readReg .c)) s)

/-- PUSH AF (R122). -/
def execPushAf (s : State) : Result := .next (pushPair .af s)

/-- LD SP,HL (R121). -/
def execLdSpHl (s : State) : Result := .next (ldSpHl s)

/-- LD A,(a16) (R109). -/
def execLdAAtA16 (nn : Word) (s : State) : Result := .next (loadAcc nn s)

end Sys2Proof.Machine
end

