-- ==== Sys2Proof/Machine/Alu16.lean ====
section
/-! DEFINITION. 16-bit arithmetic (42_alu16.md R167 to R172). -/

namespace Sys2Proof.Machine

/-- ADD HL,rr (R167). -/
def addHlPair (rr : Pair) (s : State) : State :=
  let r := add16 s.hl (s.readPair rr)
  { s with hl := r.value }.writeFlags r.flags

/-- INC rr (R168). -/
def incPair (rr : Pair) (s : State) : State := s.writePair rr (s.readPair rr + 1)

/-- DEC rr (R169). -/
def decPair (rr : Pair) (s : State) : State := s.writePair rr (s.readPair rr - 1)

/-- ADD SP,e8 (R171). -/
def addSpImm (n : Byte) (s : State) : State :=
  let r := addSpOffset s.sp n
  { s with sp := r.value }.writeFlags r.flags

/-- LD HL,SP+e8 (R172). -/
def ldHlSpImm (n : Byte) (s : State) : State :=
  let r := addSpOffset s.sp n
  { s with hl := r.value }.writeFlags r.flags

/-- INC BC (R168). -/
def execIncBc (s : State) : Result := .next (incPair .bc s)

/-- ADD HL,BC (R167). -/
def execAddHlBc (s : State) : Result := .next (addHlPair .bc s)

/-- DEC BC (R169). -/
def execDecBc (s : State) : Result := .next (decPair .bc s)

/-- INC DE (R168). -/
def execIncDe (s : State) : Result := .next (incPair .de s)

/-- ADD HL,DE (R167). -/
def execAddHlDe (s : State) : Result := .next (addHlPair .de s)

/-- DEC DE (R169). -/
def execDecDe (s : State) : Result := .next (decPair .de s)

/-- INC HL (R168). -/
def execIncHl (s : State) : Result := .next (incPair .hl s)

/-- ADD HL,HL (R167). -/
def execAddHlHl (s : State) : Result := .next (addHlPair .hl s)

/-- DEC HL (R169). -/
def execDecHl (s : State) : Result := .next (decPair .hl s)

/-- INC SP (R168). -/
def execIncSp (s : State) : Result := .next (incPair .sp s)

/-- ADD HL,SP (R167). -/
def execAddHlSp (s : State) : Result := .next (addHlPair .sp s)

/-- DEC SP (R169). -/
def execDecSp (s : State) : Result := .next (decPair .sp s)

/-- ADD SP,e8 (R171). -/
def execAddSpE8 (n : Byte) (s : State) : Result := .next (addSpImm n s)

/-- LD HL,SP+e8 (R172). -/
def execLdHlSpE8 (n : Byte) (s : State) : Result := .next (ldHlSpImm n s)

end Sys2Proof.Machine
end

