-- ==== Sys2Proof/Machine/Control.lean ====
section
/-! DEFINITION. Control transfer (45_control.md R200 to R211). `s.pc` is the address of the next instruction (R200). -/

namespace Sys2Proof.Machine

/-- `pc <- t` (R201, R203). -/
def jumpTo (t : Word) (s : State) : State := { s with pc := t }

/-- JR: the offset counts from the next instruction (R200, R204). -/
def jumpRelative (n : Byte) (s : State) : State := jumpTo (s.pc + sext16 n) s

/-- CALL and RST: the return address is pushed before pc is written (R200, R206, R211). -/
def callTo (t : Word) (s : State) : State := jumpTo t (s.push16 s.pc)

/-- RET: `pc <- Pop16()` (R208). -/
def returnTo (s : State) : State := jumpTo s.popValue s.afterPop

/-- A conditional form: with a false condition nothing more happens (R200). -/
def whenHolds (cc : Cond) (act : State → State) (s : State) : State := if s.holds cc then act s else s

/-- The target of RST t, `opcode & 0x38` (R78, R211). -/
def rstTarget (t : BitVec 3) : Word := t.setWidth 16 <<< 3

/-- JR e8 (R204). -/
def execJrE8 (n : Byte) (s : State) : Result := .next (jumpRelative n s)

/-- JR NZ,e8 (R205). -/
def execJrNzE8 (n : Byte) (s : State) : Result := .next (whenHolds .nz (jumpRelative n) s)

/-- JR Z,e8 (R205). -/
def execJrZE8 (n : Byte) (s : State) : Result := .next (whenHolds .z (jumpRelative n) s)

/-- JR NC,e8 (R205). -/
def execJrNcE8 (n : Byte) (s : State) : Result := .next (whenHolds .nc (jumpRelative n) s)

/-- JR C,e8 (R205). -/
def execJrCE8 (n : Byte) (s : State) : Result := .next (whenHolds .c (jumpRelative n) s)

/-- RET NZ (R209). -/
def execRetNz (s : State) : Result := .next (whenHolds .nz returnTo s)

/-- JP NZ,a16 (R202). -/
def execJpNzA16 (nn : Word) (s : State) : Result := .next (whenHolds .nz (jumpTo nn) s)

/-- JP a16 (R201). -/
def execJpA16 (nn : Word) (s : State) : Result := .next (jumpTo nn s)

/-- CALL NZ,a16 (R207). -/
def execCallNzA16 (nn : Word) (s : State) : Result := .next (whenHolds .nz (callTo nn) s)

/-- RST 0x00 (R211). -/
def execRst00 (s : State) : Result := .next (callTo (rstTarget 0) s)

/-- RET Z (R209). -/
def execRetZ (s : State) : Result := .next (whenHolds .z returnTo s)

/-- RET (R208). -/
def execRet (s : State) : Result := .next (returnTo s)

/-- JP Z,a16 (R202). -/
def execJpZA16 (nn : Word) (s : State) : Result := .next (whenHolds .z (jumpTo nn) s)

/-- CALL Z,a16 (R207). -/
def execCallZA16 (nn : Word) (s : State) : Result := .next (whenHolds .z (callTo nn) s)

/-- CALL a16 (R206). -/
def execCallA16 (nn : Word) (s : State) : Result := .next (callTo nn s)

/-- RST 0x08 (R211). -/
def execRst08 (s : State) : Result := .next (callTo (rstTarget 1) s)

/-- RET NC (R209). -/
def execRetNc (s : State) : Result := .next (whenHolds .nc returnTo s)

/-- JP NC,a16 (R202). -/
def execJpNcA16 (nn : Word) (s : State) : Result := .next (whenHolds .nc (jumpTo nn) s)

/-- CALL NC,a16 (R207). -/
def execCallNcA16 (nn : Word) (s : State) : Result := .next (whenHolds .nc (callTo nn) s)

/-- RST 0x10 (R211). -/
def execRst10 (s : State) : Result := .next (callTo (rstTarget 2) s)

/-- RET C (R209). -/
def execRetC (s : State) : Result := .next (whenHolds .c returnTo s)

/-- RETI (R210). -/
def execReti (s : State) : Result := .next s.returnFromInterrupt

/-- JP C,a16 (R202). -/
def execJpCA16 (nn : Word) (s : State) : Result := .next (whenHolds .c (jumpTo nn) s)

/-- CALL C,a16 (R207). -/
def execCallCA16 (nn : Word) (s : State) : Result := .next (whenHolds .c (callTo nn) s)

/-- RST 0x18 (R211). -/
def execRst18 (s : State) : Result := .next (callTo (rstTarget 3) s)

/-- RST 0x20 (R211). -/
def execRst20 (s : State) : Result := .next (callTo (rstTarget 4) s)

/-- JP HL (R203). -/
def execJpHl (s : State) : Result := .next (jumpTo s.hl s)

/-- RST 0x28 (R211). -/
def execRst28 (s : State) : Result := .next (callTo (rstTarget 5) s)

/-- RST 0x30 (R211). -/
def execRst30 (s : State) : Result := .next (callTo (rstTarget 6) s)

/-- RST 0x38 (R211). -/
def execRst38 (s : State) : Result := .next (callTo (rstTarget 7) s)

end Sys2Proof.Machine
end

