-- ==== Sys2Proof/Machine/Alu8.lean ====
section
/-! DEFINITION. 8-bit arithmetic and logic (41_alu8.md R140 to R161) over the primitives of Flags.lean. -/

namespace Sys2Proof.Machine

/-- The result into A and the flags written, on an operand value (R140 to R155); CP's result is A itself (R139). -/
def aluValue (op : AluOp) (v : Byte) (s : State) : State :=
  let r := aluPrimitive op (s.readReg .a) v (s.flag .c)
  (s.writeReg .a r.value).writeFlags r.flags

/-- The operation on a register or (HL) operand (R140, R142, R144, R146, R148, R150, R152, R154). -/
def aluLoc (op : AluOp) (src : Loc8) (s : State) : State := aluValue op (s.readLoc src) (s.noteLoc src)

/-- A read-modify-write of an operand: it is read, the result written back to it, and then the flags (R156, R157, R177). -/
def modifyLoc (f : Byte → AluResult) (dst : Loc8) (s : State) : State :=
  let r := f (s.readLoc dst)
  ((s.noteLoc dst).writeLoc dst r.value).writeFlags r.flags

/-- INC r8 (R156). -/
def incLoc (dst : Loc8) (s : State) : State := modifyLoc increment dst s

/-- DEC r8 (R157). -/
def decLoc (dst : Loc8) (s : State) : State := modifyLoc decrement dst s

/-- A result into A with its flags. -/
def accResult (r : AluResult) (s : State) : State := (s.writeReg .a r.value).writeFlags r.flags

/-- DAA (R158). -/
def decimalAdjust (s : State) : State := accResult (daa8 (s.readReg .a) (s.flag .n) (s.flag .h) (s.flag .c)) s

/-- CPL (R159). -/
def complementAcc (s : State) : State := accResult ⟨~~~(s.readReg .a), ⟨none, some true, some true, none⟩⟩ s

/-- SCF (R160). -/
def setCarry (s : State) : State := s.writeFlags ⟨none, some false, some false, some true⟩

/-- CCF (R161). -/
def complementCarry (s : State) : State := s.writeFlags ⟨none, some false, some false, some (!s.flag .c)⟩

/-- INC B (R156). -/
def execIncB (s : State) : Result := .next (incLoc (.reg .b) s)

/-- DEC B (R157). -/
def execDecB (s : State) : Result := .next (decLoc (.reg .b) s)

/-- INC C (R156). -/
def execIncC (s : State) : Result := .next (incLoc (.reg .c) s)

/-- DEC C (R157). -/
def execDecC (s : State) : Result := .next (decLoc (.reg .c) s)

/-- INC D (R156). -/
def execIncD (s : State) : Result := .next (incLoc (.reg .d) s)

/-- DEC D (R157). -/
def execDecD (s : State) : Result := .next (decLoc (.reg .d) s)

/-- INC E (R156). -/
def execIncE (s : State) : Result := .next (incLoc (.reg .e) s)

/-- DEC E (R157). -/
def execDecE (s : State) : Result := .next (decLoc (.reg .e) s)

/-- INC H (R156). -/
def execIncH (s : State) : Result := .next (incLoc (.reg .h) s)

/-- DEC H (R157). -/
def execDecH (s : State) : Result := .next (decLoc (.reg .h) s)

/-- DAA (R158). -/
def execDaa (s : State) : Result := .next (decimalAdjust s)

/-- INC L (R156). -/
def execIncL (s : State) : Result := .next (incLoc (.reg .l) s)

/-- DEC L (R157). -/
def execDecL (s : State) : Result := .next (decLoc (.reg .l) s)

/-- CPL (R159). -/
def execCpl (s : State) : Result := .next (complementAcc s)

/-- INC (HL) (R156). -/
def execIncAtHl (s : State) : Result := .next (incLoc .atHl s)

/-- DEC (HL) (R157). -/
def execDecAtHl (s : State) : Result := .next (decLoc .atHl s)

/-- SCF (R160). -/
def execScf (s : State) : Result := .next (setCarry s)

/-- INC A (R156). -/
def execIncA (s : State) : Result := .next (incLoc (.reg .a) s)

/-- DEC A (R157). -/
def execDecA (s : State) : Result := .next (decLoc (.reg .a) s)

/-- CCF (R161). -/
def execCcf (s : State) : Result := .next (complementCarry s)

/-- ADD A,B (R140). -/
def execAddAB (s : State) : Result := .next (aluLoc .add (.reg .b) s)

/-- ADD A,C (R140). -/
def execAddAC (s : State) : Result := .next (aluLoc .add (.reg .c) s)

/-- ADD A,D (R140). -/
def execAddAD (s : State) : Result := .next (aluLoc .add (.reg .d) s)

/-- ADD A,E (R140). -/
def execAddAE (s : State) : Result := .next (aluLoc .add (.reg .e) s)

/-- ADD A,H (R140). -/
def execAddAH (s : State) : Result := .next (aluLoc .add (.reg .h) s)

/-- ADD A,L (R140). -/
def execAddAL (s : State) : Result := .next (aluLoc .add (.reg .l) s)

/-- ADD A,(HL) (R140). -/
def execAddAAtHl (s : State) : Result := .next (aluLoc .add .atHl s)

/-- ADD A,A (R140). -/
def execAddAA (s : State) : Result := .next (aluLoc .add (.reg .a) s)

/-- ADC A,B (R142). -/
def execAdcAB (s : State) : Result := .next (aluLoc .adc (.reg .b) s)

/-- ADC A,C (R142). -/
def execAdcAC (s : State) : Result := .next (aluLoc .adc (.reg .c) s)

/-- ADC A,D (R142). -/
def execAdcAD (s : State) : Result := .next (aluLoc .adc (.reg .d) s)

/-- ADC A,E (R142). -/
def execAdcAE (s : State) : Result := .next (aluLoc .adc (.reg .e) s)

/-- ADC A,H (R142). -/
def execAdcAH (s : State) : Result := .next (aluLoc .adc (.reg .h) s)

/-- ADC A,L (R142). -/
def execAdcAL (s : State) : Result := .next (aluLoc .adc (.reg .l) s)

/-- ADC A,(HL) (R142). -/
def execAdcAAtHl (s : State) : Result := .next (aluLoc .adc .atHl s)

/-- ADC A,A (R142). -/
def execAdcAA (s : State) : Result := .next (aluLoc .adc (.reg .a) s)

/-- SUB B (R144). -/
def execSubB (s : State) : Result := .next (aluLoc .sub (.reg .b) s)

/-- SUB C (R144). -/
def execSubC (s : State) : Result := .next (aluLoc .sub (.reg .c) s)

/-- SUB D (R144). -/
def execSubD (s : State) : Result := .next (aluLoc .sub (.reg .d) s)

/-- SUB E (R144). -/
def execSubE (s : State) : Result := .next (aluLoc .sub (.reg .e) s)

/-- SUB H (R144). -/
def execSubH (s : State) : Result := .next (aluLoc .sub (.reg .h) s)

/-- SUB L (R144). -/
def execSubL (s : State) : Result := .next (aluLoc .sub (.reg .l) s)

/-- SUB (HL) (R144). -/
def execSubAtHl (s : State) : Result := .next (aluLoc .sub .atHl s)

/-- SUB A (R144). -/
def execSubA (s : State) : Result := .next (aluLoc .sub (.reg .a) s)

/-- SBC A,B (R146). -/
def execSbcAB (s : State) : Result := .next (aluLoc .sbc (.reg .b) s)

/-- SBC A,C (R146). -/
def execSbcAC (s : State) : Result := .next (aluLoc .sbc (.reg .c) s)

/-- SBC A,D (R146). -/
def execSbcAD (s : State) : Result := .next (aluLoc .sbc (.reg .d) s)

/-- SBC A,E (R146). -/
def execSbcAE (s : State) : Result := .next (aluLoc .sbc (.reg .e) s)

/-- SBC A,H (R146). -/
def execSbcAH (s : State) : Result := .next (aluLoc .sbc (.reg .h) s)

/-- SBC A,L (R146). -/
def execSbcAL (s : State) : Result := .next (aluLoc .sbc (.reg .l) s)

/-- SBC A,(HL) (R146). -/
def execSbcAAtHl (s : State) : Result := .next (aluLoc .sbc .atHl s)

/-- SBC A,A (R146). -/
def execSbcAA (s : State) : Result := .next (aluLoc .sbc (.reg .a) s)

/-- AND B (R148). -/
def execAndB (s : State) : Result := .next (aluLoc .and (.reg .b) s)

/-- AND C (R148). -/
def execAndC (s : State) : Result := .next (aluLoc .and (.reg .c) s)

/-- AND D (R148). -/
def execAndD (s : State) : Result := .next (aluLoc .and (.reg .d) s)

/-- AND E (R148). -/
def execAndE (s : State) : Result := .next (aluLoc .and (.reg .e) s)

/-- AND H (R148). -/
def execAndH (s : State) : Result := .next (aluLoc .and (.reg .h) s)

/-- AND L (R148). -/
def execAndL (s : State) : Result := .next (aluLoc .and (.reg .l) s)

/-- AND (HL) (R148). -/
def execAndAtHl (s : State) : Result := .next (aluLoc .and .atHl s)

/-- AND A (R148). -/
def execAndA (s : State) : Result := .next (aluLoc .and (.reg .a) s)

/-- XOR B (R150). -/
def execXorB (s : State) : Result := .next (aluLoc .xor (.reg .b) s)

/-- XOR C (R150). -/
def execXorC (s : State) : Result := .next (aluLoc .xor (.reg .c) s)

/-- XOR D (R150). -/
def execXorD (s : State) : Result := .next (aluLoc .xor (.reg .d) s)

/-- XOR E (R150). -/
def execXorE (s : State) : Result := .next (aluLoc .xor (.reg .e) s)

/-- XOR H (R150). -/
def execXorH (s : State) : Result := .next (aluLoc .xor (.reg .h) s)

/-- XOR L (R150). -/
def execXorL (s : State) : Result := .next (aluLoc .xor (.reg .l) s)

/-- XOR (HL) (R150). -/
def execXorAtHl (s : State) : Result := .next (aluLoc .xor .atHl s)

/-- XOR A (R150). -/
def execXorA (s : State) : Result := .next (aluLoc .xor (.reg .a) s)

/-- OR B (R152). -/
def execOrB (s : State) : Result := .next (aluLoc .or (.reg .b) s)

/-- OR C (R152). -/
def execOrC (s : State) : Result := .next (aluLoc .or (.reg .c) s)

/-- OR D (R152). -/
def execOrD (s : State) : Result := .next (aluLoc .or (.reg .d) s)

/-- OR E (R152). -/
def execOrE (s : State) : Result := .next (aluLoc .or (.reg .e) s)

/-- OR H (R152). -/
def execOrH (s : State) : Result := .next (aluLoc .or (.reg .h) s)

/-- OR L (R152). -/
def execOrL (s : State) : Result := .next (aluLoc .or (.reg .l) s)

/-- OR (HL) (R152). -/
def execOrAtHl (s : State) : Result := .next (aluLoc .or .atHl s)

/-- OR A (R152). -/
def execOrA (s : State) : Result := .next (aluLoc .or (.reg .a) s)

/-- CP B (R154). -/
def execCpB (s : State) : Result := .next (aluLoc .cp (.reg .b) s)

/-- CP C (R154). -/
def execCpC (s : State) : Result := .next (aluLoc .cp (.reg .c) s)

/-- CP D (R154). -/
def execCpD (s : State) : Result := .next (aluLoc .cp (.reg .d) s)

/-- CP E (R154). -/
def execCpE (s : State) : Result := .next (aluLoc .cp (.reg .e) s)

/-- CP H (R154). -/
def execCpH (s : State) : Result := .next (aluLoc .cp (.reg .h) s)

/-- CP L (R154). -/
def execCpL (s : State) : Result := .next (aluLoc .cp (.reg .l) s)

/-- CP (HL) (R154). -/
def execCpAtHl (s : State) : Result := .next (aluLoc .cp .atHl s)

/-- CP A (R154). -/
def execCpA (s : State) : Result := .next (aluLoc .cp (.reg .a) s)

/-- ADD A,d8 (R141). -/
def execAddAD8 (n : Byte) (s : State) : Result := .next (aluValue .add n s)

/-- ADC A,d8 (R143). -/
def execAdcAD8 (n : Byte) (s : State) : Result := .next (aluValue .adc n s)

/-- SUB d8 (R145). -/
def execSubD8 (n : Byte) (s : State) : Result := .next (aluValue .sub n s)

/-- SBC A,d8 (R147). -/
def execSbcAD8 (n : Byte) (s : State) : Result := .next (aluValue .sbc n s)

/-- AND d8 (R149). -/
def execAndD8 (n : Byte) (s : State) : Result := .next (aluValue .and n s)

/-- XOR d8 (R151). -/
def execXorD8 (n : Byte) (s : State) : Result := .next (aluValue .xor n s)

/-- OR d8 (R153). -/
def execOrD8 (n : Byte) (s : State) : Result := .next (aluValue .or n s)

/-- CP d8 (R155). -/
def execCpD8 (n : Byte) (s : State) : Result := .next (aluValue .cp n s)

end Sys2Proof.Machine
end

