-- ==== Sys2Proof/Machine/Rotate.lean ====
section
/-! DEFINITION. Rotates, shifts and SWAP (43_rotate_shift.md R173 to R185). -/

namespace Sys2Proof.Machine

/-- RLCA, RRCA, RLA, RRA (R173 to R176). -/
def rotateAcc (op : ShiftOp) (s : State) : State := accResult (accRotate op (s.readReg .a) (s.flag .c)) s

/-- A CB rotate, shift or SWAP of an operand (R177 to R185). -/
def shiftLoc (op : ShiftOp) (dst : Loc8) (s : State) : State :=
  modifyLoc (fun v => shiftPrimitive op v (s.flag .c)) dst s

/-- RLCA (R173). -/
def execRlca (s : State) : Result := .next (rotateAcc .rlc s)

/-- RRCA (R174). -/
def execRrca (s : State) : Result := .next (rotateAcc .rrc s)

/-- RLA (R175). -/
def execRla (s : State) : Result := .next (rotateAcc .rl s)

/-- RRA (R176). -/
def execRra (s : State) : Result := .next (rotateAcc .rr s)

/-- RLC B (R178). -/
def execRlcB (s : State) : Result := .next (shiftLoc .rlc (.reg .b) s)

/-- RLC C (R178). -/
def execRlcC (s : State) : Result := .next (shiftLoc .rlc (.reg .c) s)

/-- RLC D (R178). -/
def execRlcD (s : State) : Result := .next (shiftLoc .rlc (.reg .d) s)

/-- RLC E (R178). -/
def execRlcE (s : State) : Result := .next (shiftLoc .rlc (.reg .e) s)

/-- RLC H (R178). -/
def execRlcH (s : State) : Result := .next (shiftLoc .rlc (.reg .h) s)

/-- RLC L (R178). -/
def execRlcL (s : State) : Result := .next (shiftLoc .rlc (.reg .l) s)

/-- RLC (HL) (R178). -/
def execRlcAtHl (s : State) : Result := .next (shiftLoc .rlc .atHl s)

/-- RLC A (R178). -/
def execRlcA (s : State) : Result := .next (shiftLoc .rlc (.reg .a) s)

/-- RRC B (R179). -/
def execRrcB (s : State) : Result := .next (shiftLoc .rrc (.reg .b) s)

/-- RRC C (R179). -/
def execRrcC (s : State) : Result := .next (shiftLoc .rrc (.reg .c) s)

/-- RRC D (R179). -/
def execRrcD (s : State) : Result := .next (shiftLoc .rrc (.reg .d) s)

/-- RRC E (R179). -/
def execRrcE (s : State) : Result := .next (shiftLoc .rrc (.reg .e) s)

/-- RRC H (R179). -/
def execRrcH (s : State) : Result := .next (shiftLoc .rrc (.reg .h) s)

/-- RRC L (R179). -/
def execRrcL (s : State) : Result := .next (shiftLoc .rrc (.reg .l) s)

/-- RRC (HL) (R179). -/
def execRrcAtHl (s : State) : Result := .next (shiftLoc .rrc .atHl s)

/-- RRC A (R179). -/
def execRrcA (s : State) : Result := .next (shiftLoc .rrc (.reg .a) s)

/-- RL B (R180). -/
def execRlB (s : State) : Result := .next (shiftLoc .rl (.reg .b) s)

/-- RL C (R180). -/
def execRlC (s : State) : Result := .next (shiftLoc .rl (.reg .c) s)

/-- RL D (R180). -/
def execRlD (s : State) : Result := .next (shiftLoc .rl (.reg .d) s)

/-- RL E (R180). -/
def execRlE (s : State) : Result := .next (shiftLoc .rl (.reg .e) s)

/-- RL H (R180). -/
def execRlH (s : State) : Result := .next (shiftLoc .rl (.reg .h) s)

/-- RL L (R180). -/
def execRlL (s : State) : Result := .next (shiftLoc .rl (.reg .l) s)

/-- RL (HL) (R180). -/
def execRlAtHl (s : State) : Result := .next (shiftLoc .rl .atHl s)

/-- RL A (R180). -/
def execRlA (s : State) : Result := .next (shiftLoc .rl (.reg .a) s)

/-- RR B (R181). -/
def execRrB (s : State) : Result := .next (shiftLoc .rr (.reg .b) s)

/-- RR C (R181). -/
def execRrC (s : State) : Result := .next (shiftLoc .rr (.reg .c) s)

/-- RR D (R181). -/
def execRrD (s : State) : Result := .next (shiftLoc .rr (.reg .d) s)

/-- RR E (R181). -/
def execRrE (s : State) : Result := .next (shiftLoc .rr (.reg .e) s)

/-- RR H (R181). -/
def execRrH (s : State) : Result := .next (shiftLoc .rr (.reg .h) s)

/-- RR L (R181). -/
def execRrL (s : State) : Result := .next (shiftLoc .rr (.reg .l) s)

/-- RR (HL) (R181). -/
def execRrAtHl (s : State) : Result := .next (shiftLoc .rr .atHl s)

/-- RR A (R181). -/
def execRrA (s : State) : Result := .next (shiftLoc .rr (.reg .a) s)

/-- SLA B (R182). -/
def execSlaB (s : State) : Result := .next (shiftLoc .sla (.reg .b) s)

/-- SLA C (R182). -/
def execSlaC (s : State) : Result := .next (shiftLoc .sla (.reg .c) s)

/-- SLA D (R182). -/
def execSlaD (s : State) : Result := .next (shiftLoc .sla (.reg .d) s)

/-- SLA E (R182). -/
def execSlaE (s : State) : Result := .next (shiftLoc .sla (.reg .e) s)

/-- SLA H (R182). -/
def execSlaH (s : State) : Result := .next (shiftLoc .sla (.reg .h) s)

/-- SLA L (R182). -/
def execSlaL (s : State) : Result := .next (shiftLoc .sla (.reg .l) s)

/-- SLA (HL) (R182). -/
def execSlaAtHl (s : State) : Result := .next (shiftLoc .sla .atHl s)

/-- SLA A (R182). -/
def execSlaA (s : State) : Result := .next (shiftLoc .sla (.reg .a) s)

/-- SRA B (R183). -/
def execSraB (s : State) : Result := .next (shiftLoc .sra (.reg .b) s)

/-- SRA C (R183). -/
def execSraC (s : State) : Result := .next (shiftLoc .sra (.reg .c) s)

/-- SRA D (R183). -/
def execSraD (s : State) : Result := .next (shiftLoc .sra (.reg .d) s)

/-- SRA E (R183). -/
def execSraE (s : State) : Result := .next (shiftLoc .sra (.reg .e) s)

/-- SRA H (R183). -/
def execSraH (s : State) : Result := .next (shiftLoc .sra (.reg .h) s)

/-- SRA L (R183). -/
def execSraL (s : State) : Result := .next (shiftLoc .sra (.reg .l) s)

/-- SRA (HL) (R183). -/
def execSraAtHl (s : State) : Result := .next (shiftLoc .sra .atHl s)

/-- SRA A (R183). -/
def execSraA (s : State) : Result := .next (shiftLoc .sra (.reg .a) s)

/-- SWAP B (R184). -/
def execSwapB (s : State) : Result := .next (shiftLoc .swap (.reg .b) s)

/-- SWAP C (R184). -/
def execSwapC (s : State) : Result := .next (shiftLoc .swap (.reg .c) s)

/-- SWAP D (R184). -/
def execSwapD (s : State) : Result := .next (shiftLoc .swap (.reg .d) s)

/-- SWAP E (R184). -/
def execSwapE (s : State) : Result := .next (shiftLoc .swap (.reg .e) s)

/-- SWAP H (R184). -/
def execSwapH (s : State) : Result := .next (shiftLoc .swap (.reg .h) s)

/-- SWAP L (R184). -/
def execSwapL (s : State) : Result := .next (shiftLoc .swap (.reg .l) s)

/-- SWAP (HL) (R184). -/
def execSwapAtHl (s : State) : Result := .next (shiftLoc .swap .atHl s)

/-- SWAP A (R184). -/
def execSwapA (s : State) : Result := .next (shiftLoc .swap (.reg .a) s)

/-- SRL B (R185). -/
def execSrlB (s : State) : Result := .next (shiftLoc .srl (.reg .b) s)

/-- SRL C (R185). -/
def execSrlC (s : State) : Result := .next (shiftLoc .srl (.reg .c) s)

/-- SRL D (R185). -/
def execSrlD (s : State) : Result := .next (shiftLoc .srl (.reg .d) s)

/-- SRL E (R185). -/
def execSrlE (s : State) : Result := .next (shiftLoc .srl (.reg .e) s)

/-- SRL H (R185). -/
def execSrlH (s : State) : Result := .next (shiftLoc .srl (.reg .h) s)

/-- SRL L (R185). -/
def execSrlL (s : State) : Result := .next (shiftLoc .srl (.reg .l) s)

/-- SRL (HL) (R185). -/
def execSrlAtHl (s : State) : Result := .next (shiftLoc .srl .atHl s)

/-- SRL A (R185). -/
def execSrlA (s : State) : Result := .next (shiftLoc .srl (.reg .a) s)

end Sys2Proof.Machine
end

