-- ==== Sys2Proof/Machine/System.lean ====
section
/-! DEFINITION. NOP, HALT, STOP, DI, EI, the CB prefix and the 11 UNKNOWN opcodes (46_system.md R220 to R235). -/

namespace Sys2Proof.Machine

/-- HALT: the wait, or the armed repeat when P_HALT_BUG is on, IME is 0 and a request is pending (R221, R224). -/
def haltCore (s : State) : State :=
  if s.params.haltBug = true ∧ s.ime = false ∧ s.pendingMask ≠ 0 then { s with haltRepeat := true }
  else { s with haltWait := true }

/-- STOP: the run ends at the boundary; the operand is ignored (R225, R89). -/
def stopRun (s : State) : State := { s with running := false }

/-- DI (R226). -/
def disableInterrupts (s : State) : State := { s with ime := false, eiShadow := false }

/-- EI (R227). -/
def enableInterrupts (s : State) : State := { s with ime := true, eiShadow := true }

/-- The sub-table entry `gg yyy zzz` by its fields (R228). -/
def performCb (cbop : Byte) (s : State) : State :=
  let yyy := cbop.extractLsb' 3 3
  let loc := Loc8.ofCode (cbop.extractLsb' 0 3)
  match (cbop.extractLsb' 6 2).toNat with
  | 0 => shiftLoc (ShiftOp.ofCode yyy) loc s
  | 1 => testBit yyy loc s
  | 2 => resetBit yyy loc s
  | _ => assertBit yyy loc s

/-- NOP (R220). -/
def execNop (s : State) : Result := .next s

/-- STOP (R225). -/
def execStop (_n : Byte) (s : State) : Result := .next (stopRun s)

/-- HALT (R221). -/
def execHalt (s : State) : Result := .next (haltCore s)

/-- PREFIX CB (R228). -/
def execPrefixCb (n : Byte) (s : State) : Result := .next (performCb n s)

/-- UNKNOWN 0xD3 (R235). -/
def execUnknownD3 (s : State) : Result := .next (s.raiseDecodeError 0xD3)

/-- UNKNOWN 0xDB (R235). -/
def execUnknownDB (s : State) : Result := .next (s.raiseDecodeError 0xDB)

/-- UNKNOWN 0xDD (R235). -/
def execUnknownDD (s : State) : Result := .next (s.raiseDecodeError 0xDD)

/-- UNKNOWN 0xE3 (R235). -/
def execUnknownE3 (s : State) : Result := .next (s.raiseDecodeError 0xE3)

/-- UNKNOWN 0xE4 (R235). -/
def execUnknownE4 (s : State) : Result := .next (s.raiseDecodeError 0xE4)

/-- UNKNOWN 0xEB (R235). -/
def execUnknownEB (s : State) : Result := .next (s.raiseDecodeError 0xEB)

/-- UNKNOWN 0xEC (R235). -/
def execUnknownEC (s : State) : Result := .next (s.raiseDecodeError 0xEC)

/-- UNKNOWN 0xED (R235). -/
def execUnknownED (s : State) : Result := .next (s.raiseDecodeError 0xED)

/-- DI (R226). -/
def execDi (s : State) : Result := .next (disableInterrupts s)

/-- UNKNOWN 0xF4 (R235). -/
def execUnknownF4 (s : State) : Result := .next (s.raiseDecodeError 0xF4)

/-- EI (R227). -/
def execEi (s : State) : Result := .next (enableInterrupts s)

/-- UNKNOWN 0xFC (R235). -/
def execUnknownFC (s : State) : Result := .next (s.raiseDecodeError 0xFC)

/-- UNKNOWN 0xFD (R235). -/
def execUnknownFD (s : State) : Result := .next (s.raiseDecodeError 0xFD)

end Sys2Proof.Machine
end

