-- ==== Sys2Proof/Machine/Scheduler.lean ====
section
/-! DEFINITION. The scheduler's parts that come before an instruction executes (60_exceptions.md R260 to R281, 70_reset_and_hazards.md
R291): the Reset sequence, the host calls and their observation, the boundary, the checks of steps 1 and 2, and the operand
fetch of step 8. -/

namespace Sys2Proof.Machine

/-- The Reset sequence (R291): memory, the observation, the inputs and the parameters stay. -/
def State.resetSequence (s : State) : State :=
  let t : State :=
    { s with
      af := Config.powerUpAF, bc := Config.powerUpBC, de := Config.powerUpDE, hl := Config.powerUpHL,
      sp := Config.powerUpSP, pc := Config.powerUpPC }
  let u := t.flagClear .z
  let v : State :=
    { u with
      ime := false, ieReg := 0x00, ifReg := 0x00, eiShadow := false, haltWait := false, haltRepeat := false,
      running := false, breakpoints := [], fatal := none, sched := .idle }
  v.clearSession

/-- In a run: sched is Running, Paused or Stepping (section 5). -/
def State.inRun (s : State) : Bool :=
  match s.sched with
  | .running => true
  | .paused _ => true
  | .stepping _ => true
  | .idle => false
  | .halted => false
  | .stopped => false

/-- The breakpoint set with an address added (R274), in rising order with no repeat. -/
def addBreakpoint : List Word → Word → List Word
  | [], a => [a]
  | b :: rest, a =>
    if a.toNat < b.toNat then a :: b :: rest
    else if a = b then b :: rest
    else b :: addBreakpoint rest a

/-- The breakpoint set with an address removed (R274). -/
def removeBreakpoint (bs : List Word) (a : Word) : List Word := bs.filter (fun b => decide (b ≠ a))

/-- IsBreakpointEnabled (R274): a query on the set as last applied. -/
def State.isBreakpointEnabled (s : State) (a : Word) : Bool := decide (a ∈ s.breakpoints)

/-- Start (R268): from Idle and Stopped a run begins; otherwise it is ignored. -/
def State.start (s : State) (d : Bool) : State :=
  match s.sched with
  | .idle => { s.clearSession with running := true, debugMode := d, sched := .running }
  | .stopped => { s.clearSession with running := true, debugMode := d, sched := .running }
  | .halted => s
  | .running => s
  | .paused _ => s
  | .stepping _ => s

/-- SingleStep (R271): the step-advance at the step-wait, else a request to step; ignored outside a run. -/
def State.singleStep (s : State) : State :=
  match s.sched with
  | .stepping _ => { s with advance := true }
  | .running => { s with debugMode := true, stepArmed := true }
  | .paused _ => { s with debugMode := true, stepArmed := true }
  | .idle => s
  | .halted => s
  | .stopped => s

/-- SetStickyStep in a run (R272). -/
def State.setStickyStep (s : State) (b : Bool) : State :=
  if b then { s with stickyStep := true, debugMode := true } else { s with stickyStep := false }

/-- A load of the host: bytes into the Memory Unit's backing storage from an address on, while no run is active (R280, R294).
In a run the host may not touch it, and the model has no such move (R277, H-A2; log entry 16). -/
def State.load (s : State) (a : Word) (bytes : List Byte) : State :=
  if s.inRun then s else { s with mem := placeBytes s.mem a bytes, bus := s.bus ++ [.load a bytes] }

/-- One host call applied (R268 to R274, R280). Outside a run Stop, Pause, Resume, SingleStep and SetStickyStep are ignored. -/
def State.applyCall (s : State) (c : HostCall) : State :=
  match c with
  | .start d => s.start d
  | .stop => if s.inRun then { s with running := false } else s
  | .pause => if s.inRun then { s with paused := true } else s
  | .resume => if s.inRun then { s with paused := false } else s
  | .singleStep => s.singleStep
  | .setStickyStep b => if s.inRun then s.setStickyStep b else s
  | .reset => s.resetSequence
  | .addBreakpoint a => { s with breakpoints := Sys2Proof.Machine.addBreakpoint s.breakpoints a }
  | .removeBreakpoint a => { s with breakpoints := Sys2Proof.Machine.removeBreakpoint s.breakpoints a }
  | .load a bytes => s.load a bytes

/-- An observation: the calls that have arrived are applied in the order the host made them (R263, R281; log entry 5). -/
def State.observe (s : State) : State :=
  match s.hostCalls with
  | [] => s
  | batch :: later => batch.foldl State.applyCall { s with hostCalls := later }

/-- The exit from the loop (R278): Stopped(normal) with the session bits cleared, or Idle where a Reset was applied. -/
def State.exitLoop (s : State) : State :=
  match s.sched with
  | .idle => s
  | _ => { s.clearSession with sched := .stopped }

/-- `IF <- IF | P_IRQ()` (R248; log entry 4). -/
def State.sampleIrq (s : State) : State :=
  match s.irqs with
  | [] => s
  | irq :: later => { s with ifReg := s.ifReg ||| irq.setWidth 8, irqs := later }

/-- The halt wake: IME is not read (R222). -/
def State.wake (s : State) : State :=
  if s.haltWait = true ∧ s.pendingMask ≠ 0 then { s with haltWait := false } else s

/-- The end of a boundary that starts an iteration: dispatch, then ei_shadow is cleared (R263, R252). -/
def State.leaveBoundary (s : State) : State := { s.dispatch with eiShadow := false }

/-- Step 1: a breakpoint at pc forces debugMode, stepArmed and stickyStep (R262, R264). -/
def State.checkBreakpoint (s : State) : State :=
  if s.isBreakpointEnabled s.pc then { s with debugMode := true, stepArmed := true, stickyStep := true } else s

/-- Step 2: the sticky step arms the step (R262, R265). -/
def State.armSticky (s : State) : State := if s.stickyStep then { s with stepArmed := true } else s

/-- The first PC increment of step 8, or its omission when halt_repeat is set (R75, R224). -/
def State.passOpcode (s : State) : State :=
  if s.haltRepeat then { s with haltRepeat := false } else { s with pc := s.pc + 1 }

/-- The instruction that a descriptor makes of its operand bytes, which lie after the opcode's address (R76). -/
def State.fetchInstr (s : State) (e : Entry) (opcAddr : Word) : Instr :=
  match e with
  | .bare i => i
  | .unknown i => i
  | .imm8 make => make (s.peek (opcAddr + 1))
  | .imm16 make => make (joinBytes (s.peekNext (opcAddr + 1)) (s.peek (opcAddr + 1)))

/-- The requests of the operand fetch, lower address first (R64, R76). -/
def State.noteOperands (s : State) (e : Entry) (opcAddr : Word) : State :=
  match e with
  | .bare _ => s
  | .unknown _ => s
  | .imm8 _ => s.noteRead (opcAddr + 1)
  | .imm16 _ => (s.noteRead (opcAddr + 1)).noteRead (opcAddr + 2)

/-- The state that the execute function sees: pc past the opcode and the operands (step 8; R75). -/
def State.afterFetch (s : State) (e : Entry) : State :=
  let t := s.passOpcode.noteOperands e s.pc
  { t with pc := t.pc + BitVec.ofNat 16 e.operandCount }

end Sys2Proof.Machine
end

