-- ==== Sys2Proof/Machine/Iteration.lean ====
section
/-! DEFINITION. The iteration of the scheduler and its waits (60_exceptions.md R262, R263, R266, R267, R279). -/

namespace Sys2Proof.Machine

/-- Steps 8 to 11 for a decoded opcode: operand fetch, execution (a Warning instead for an opcode in P_UNIMPLEMENTED: R236),
and the Snapshot of the commit (R262, R275). -/
def commit (opcode : Byte) (s : State) : Result :=
  let e := primary opcode
  let i := s.fetchInstr e s.pc
  let t := s.afterFetch e
  if opcode ∈ s.params.unimplemented then
    let u := t.emit (.warning (mnemonic opcode) s.pc)
    .next (u.emit (.snapshot u.snapshot))
  else
    match exec i t with
    | .next u => .next (u.emit (.snapshot u.snapshot))
    | .fault r => .fault r
    | .refused r => .refused r

/-- Step 6 and what follows: the step-wait is entered when debugMode and stepArmed are set (R262, R267). -/
def debugStage (opcode : Byte) (s : State) : Result :=
  if s.debugMode && s.stepArmed then .next { s with sched := .stepping opcode } else commit opcode s

/-- Steps 4 and 5 and what follows: the trace, then the pause-wait when paused is set (R262, R266). -/
def traceStage (opcode : Byte) (s : State) : Result :=
  let t := s.emit (.info (mnemonic opcode) s.pc)
  if t.paused then .next { t with sched := .paused opcode } else debugStage opcode t

/-- Steps 1 to 3 and what follows. The opcode is read once. An UNKNOWN opcode ends the iteration here: its row's meaning
raises DecodeError with pc at the opcode (R262, R235). -/
def iterate (s : State) : Result :=
  let t := s.checkBreakpoint.armSticky
  let opcode := t.peek t.pc
  let u := t.noteRead t.pc
  match primary opcode with
  | .unknown i => exec i u
  | .bare _ => traceStage opcode u
  | .imm8 _ => traceStage opcode u
  | .imm16 _ => traceStage opcode u

/-- One evaluation of the boundary after its host calls were applied: the end of the run, or request sampling and the halt
wake, and then either the halt wait goes on or the iteration runs (R263, R252, R279). -/
def boundary (s : State) : Result :=
  if s.running then
    let t := s.sampleIrq.wake
    if t.haltWait then .next t else iterate t.leaveBoundary
  else .next s.exitLoop

/-- One poll of the pause-wait after its host calls were applied (R263, R266). Where a Reset was applied the loop is left. -/
def pausePoll (opcode : Byte) (s : State) : Result :=
  match s.sched with
  | .paused _ =>
    if s.running then
      if s.paused then .next s else debugStage opcode { s with sched := .running }
    else .next s.exitLoop
  | _ => .next s

/-- One poll of the step-wait after its host calls were applied (R263, R267): on the step-advance the DebugSnapshot is
emitted and the instruction executes. -/
def stepPoll (opcode : Byte) (s : State) : Result :=
  match s.sched with
  | .stepping _ =>
    if s.running then
      if s.advance then
        let t := { s with advance := false }
        let u := t.emit (.debugSnapshot t.snapshot)
        commit opcode { u with stepArmed := false, sched := .running }
      else .next s
    else .next s.exitLoop
  | _ => .next s

/-- What one step does (log entry 7): outside a run, one observation; in a run, one boundary evaluation with the iteration it
starts, or one poll of the wait the iteration is in. -/
def schedulerStep (s : State) : Result :=
  match s.sched with
  | .idle => .next s.observe
  | .halted => .next s.observe
  | .stopped => .next s.observe
  | .running => boundary s.observe
  | .paused opcode => pausePoll opcode s.observe
  | .stepping opcode => stepPoll opcode s.observe

/-- The bytes of an instruction placed at pc, and a run in progress at a boundary that nothing holds up: no call or request
to come, no wait, no breakpoint at pc, no interrupt taken first, pc's bytes in RAM or ROM, the opcode implemented
(log entry 7). -/
def State.readyToRun (s : State) (bytes : List Byte) : State :=
  let mapped := s.reachesIE s.pc || s.reachesIE (s.pc + 1) || s.reachesIE (s.pc + 2) ||
    s.reachesIF s.pc || s.reachesIF (s.pc + 1) || s.reachesIF (s.pc + 2)
  let external := decide (s.kind s.pc = .external) || decide (s.kind (s.pc + 1) = .external) ||
    decide (s.kind (s.pc + 2) = .external)
  { s with
    mem := placeBytes s.mem s.pc bytes
    sched := .running
    running := true
    paused := false
    stepArmed := false
    stickyStep := false
    breakpoints := removeBreakpoint s.breakpoints s.pc
    haltWait := false
    haltRepeat := false
    eiShadow := s.eiShadow || decide (s.params.dispatch = .sm83)
    hostCalls := []
    irqs := []
    params := { s.params with
      memoryMap := if external then [] else s.params.memoryMap
      ieIfMapped := s.params.ieIfMapped && !mapped
      unimplemented := s.params.unimplemented.filter (fun b => decide (some b ≠ bytes.head?)) } }

end Sys2Proof.Machine
end

