-- ==== Sys2Proof/Machine/Step.lean ====
section
/-! DEFINITION. The step of the core, and a state whose next step runs a given table word. -/

namespace Sys2Proof.Machine

/-- One step (60_exceptions.md R262, R263; `schedulerStep`). -/
def step (s : State) : Host.Outcome State Fault Refusal := schedulerStep s

/-- `s` with the instruction of a table word at pc and a run in progress, so that the next step fetches and executes it
(log entry 7): it stands for the host's load of memory and its Start (R294, R268). -/
def State.withFetchWord (s : State) (nbits w : Nat) : State := s.readyToRun (tableBytes nbits w)

end Sys2Proof.Machine
end

