-- ==== Sys2Proof/Safety.lean ====
section
/-! DEFINITION. The terms the statements use: what reads and stores ask of the Memory Unit and leave behind, when a boundary
starts an iteration with nothing in its way, and the invariant of the machine. -/

namespace Sys2Proof.Machine

/-- The requests of a core ReadByte: none at an address routed to IE or IF (20_memory.md R62, R66). -/
def State.readRequests (s : State) (a : Word) : List Request :=
  if s.reachesIE a || s.reachesIF a then [] else [.read a]

/-- The requests of a core write of one byte (R62, R66). -/
def State.writeRequests (s : State) (a : Word) (v : Byte) (call : WriteCall := .byte) : List Request :=
  if s.reachesIE a || s.reachesIF a then [] else [.write call a v]

/-- The requests of a WriteShort, in the order of P_SHORT_WRITE_ORDER (R54, R55). -/
def State.shortRequests (s : State) (a v : Word) : List Request :=
  match s.params.shortWriteOrder with
  | .lowFirst => s.writeRequests a (loByte v) .short ++ s.writeRequests (a + 1) (hiByte v) .short
  | .highFirst => s.writeRequests (a + 1) (hiByte v) .short ++ s.writeRequests a (loByte v) .short

/-- The requests of reading an 8-bit operand (R62, 30_encoding.md R80). -/
def State.locRequests (s : State) : Loc8 → List Request
  | .reg _ => []
  | .atHl => s.readRequests s.hl

/-- An address that keeps what a core write stores there: IE or IF where it is routed to them (R66), else one where the Memory
Unit behaves as RAM (R71). -/
def State.keepsWrites (s : State) (a : Word) : Bool :=
  s.reachesIE a || s.reachesIF a || decide (s.kind a = .ram)

/-- What an address that keeps writes reads as once a byte is stored there: IF keeps five bits and reads its others as 1
(R66). -/
def State.storedAs (s : State) (a : Word) (v : Byte) : Byte := if s.reachesIF a then 0xE0 ||| (v &&& 0x1F) else v

/-- Unmapped, IE and IF are as before; mapped, the Memory Unit's bytes behind them are (R34, R66). -/
def RoutingKept (s t : State) : Prop :=
  (s.params.ieIfMapped = false → t.ieReg = s.ieReg ∧ t.ifReg = s.ifReg) ∧
    (s.params.ieIfMapped = true → t.mem.read 0xFFFF = s.mem.read 0xFFFF ∧ t.mem.read 0xFF0F = s.mem.read 0xFF0F)

/-- From s to t the byte v is stored at a, and no other address reads differently. Where the Memory Unit does not behave as
RAM, what reaches it is said by the requests, and what an external address answers later is the unit's business. -/
def StoresByte (s t : State) (a : Word) (v : Byte) : Prop :=
  (s.keepsWrites a = true → t.peek a = s.storedAs a v) ∧ (∀ b, b ≠ a → s.external b = false → t.peek b = s.peek b) ∧
    RoutingKept s t

/-- From s to t the word v is stored little-endian at a and a+1, and no other address reads differently (R54); where the Memory
Unit does not behave as RAM as in StoresByte. -/
def StoresWord (s t : State) (a v : Word) : Prop :=
  (s.keepsWrites a = true → t.peek a = s.storedAs a (loByte v)) ∧
    (s.keepsWrites (a + 1) = true → t.peek (a + 1) = s.storedAs (a + 1) (hiByte v)) ∧
    (∀ b, b ≠ a → b ≠ a + 1 → s.external b = false → t.peek b = s.peek b) ∧ RoutingKept s t

/-- Every address reads as before, but that an external one may answer otherwise once it has been read. -/
def StoresNothing (s t : State) : Prop := ∀ b, t.bus = s.bus ∨ s.external b = false → t.peek b = s.peek b

/-- All four flags are as before. -/
def FlagsKept (s t : State) : Prop := ∀ f, t.flag f = s.flag f

/-- A primary opcode that is not one of the 11 UNKNOWN ones (30_encoding.md R88). -/
def knownOpcode (op : Byte) : Bool :=
  match primary op with
  | .unknown _ => false
  | .bare _ => true
  | .imm8 _ => true
  | .imm16 _ => true

/-- No host call and no interrupt request is still to come. -/
def State.noInputs (s : State) : Prop := s.hostCalls = [] ∧ s.irqs = []

/-- The next step evaluates a boundary that starts an iteration which no wait, no dispatch and no breakpoint holds up
(60_exceptions.md R262, R263). -/
structure State.Ready (s : State) : Prop where
  running : s.running = true
  sched : s.sched = .running
  noInputs : s.noInputs
  noHaltWait : s.haltWait = false
  noHaltRepeat : s.haltRepeat = false
  noDispatch : s.params.dispatch = .off ∨ s.eiShadow = true ∨ s.pollPending = none
  noPause : s.paused = false
  noStep : s.stepArmed = false ∧ s.stickyStep = false
  noBreakpoint : s.pc ∉ s.breakpoints
  implemented : s.peek s.pc ∉ s.params.unimplemented

/-- The three bytes that an instruction at pc may take, each as it answers after those below it are read (30_encoding.md
R73, R76; 20_memory.md R64). -/
def State.bytesAtPc (s : State) : List Byte :=
  [s.peek s.pc, s.peekNext s.pc, (s.noteRead s.pc).peekNext (s.pc + 1)]

/-- A set of addresses as a strictly rising list (10_state.md R40). -/
def risingFrom : Nat → List Word → Bool
  | _, [] => true
  | lo, b :: rest => decide (lo ≤ b.toNat) && risingFrom (b.toNat + 1) rest

/-- What holds at reset and what every step keeps. -/
structure State.Inv (s : State) : Prop where
  /-- memory is canonical -/
  memory : s.mem.wf = true
  /-- F[3:0] is 0 (R27) -/
  flagsLow : s.af &&& 0x000F#16 = 0
  /-- IF[7:5] is not stored (R34) -/
  ifHigh : s.ifReg &&& 0xE0#8 = 0
  /-- the breakpoints are a set (R40) -/
  breakpointSet : risingFrom 0 s.breakpoints = true
  /-- the EI delay is on only while interrupts are enabled (R35, R226, R227) -/
  shadowEnabled : s.eiShadow = true → s.ime = true
  /-- the HALT bug needs its parameter (R36, R224) -/
  repeatNeedsBug : s.haltRepeat = true → s.params.haltBug = true
  /-- a fatal record stands exactly in Halted(fatal) (R41, R240, R273) -/
  fatalHalted : s.fatal.isSome = true ↔ s.sched = .halted
  /-- running is set only in a run (R38) -/
  runningInRun : s.running = true → s.inRun = true
  /-- a wait belongs to a run that goes on, and holds a decodable opcode (R244, R266, R267) -/
  waiting : ∀ op, s.sched = .paused op ∨ s.sched = .stepping op → s.running = true ∧ knownOpcode op = true
  /-- outside a run the session is discarded (R278) -/
  sessionDiscarded :
    s.inRun = false → s.paused = false ∧ s.debugMode = false ∧ s.stepArmed = false ∧ s.stickyStep = false
  /-- a step-advance is consumed in the step that sees it (R267, R271) -/
  advanceConsumed : s.advance = false

end Sys2Proof.Machine
end

