-- ==== Sys2Proof/Certificates/Slice0/Obligations.lean ====
section
/-! DEFINITION. The statements for the provers, one Prop each. The docstring is the claim; OBLIGATIONS.json names the rules.
`exec` sees pc at the address of the next instruction (30_encoding.md R75). A stored byte is one that RAM, ROM, IE or IF
holds; an address outside these is external: the Memory Unit answers there for itself, and the requests say what
reaches it (Safety.lean). That the Memory Unit is a map of RAM, ROM and external regions is log entry 1, the model's
choice; with the default map every address is RAM (20_memory.md R71). -/

open Sys2Proof Sys2Proof.Machine

/-- For every LD r,r' (destination and source any of B C D E H L A, the same register included): its encoding is 01 ddd
sss; it completes; the destination holds the old source; every other register view, every flag, every stored byte
and every other field is as before (no memory is accessed). [stated: R100] -/
def Obligations.LdRegRegCopiesOneRegister : Prop :=
  ∀ (i : Instr) (dst src : Reg8) (s : State), i.form = .ldRegReg dst src →
    encode i = [0b01#2 ++ dst.code ++ src.code] ∧
      ∃ t, exec i s = .next t ∧ t.readReg dst = s.readReg src ∧ (∀ q, q ≠ dst → t.readReg q = s.readReg q) ∧
        FlagsKept s t ∧ StoresNothing s t ∧ t = { s with af := t.af, bc := t.bc, de := t.de, hl := t.hl }

/-- For every LD r,d8: its encoding is 00 ddd 110 n; it completes; the destination holds n; every other register view,
every flag, every stored byte and every other field is as before. [stated: R101] -/
def Obligations.LdRegImmLoadsTheOperand : Prop :=
  ∀ (i : Instr) (dst : Reg8) (n : Byte) (s : State), i.form = .ldRegImm dst n →
    encode i = [0b00#2 ++ dst.code ++ 0b110#3, n] ∧
      ∃ t, exec i s = .next t ∧ t.readReg dst = n ∧ (∀ q, q ≠ dst → t.readReg q = s.readReg q) ∧
        FlagsKept s t ∧ StoresNothing s t ∧ t = { s with af := t.af, bc := t.bc, de := t.de, hl := t.hl }

/-- For every LD r,(HL), H and L as destination included: its encoding is 01 ddd 110; it completes; the destination
holds what address HL read as before; one read of HL is requested; every other register view, every flag, every
stored byte and every other field is as before. [stated: R102] -/
def Obligations.LdRegMemReadsAtTheOldHl : Prop :=
  ∀ (i : Instr) (dst : Reg8) (s : State), i.form = .ldRegMem dst →
    encode i = [0b01#2 ++ dst.code ++ 0b110#3] ∧
      ∃ t, exec i s = .next t ∧ t.readReg dst = s.peek s.hl ∧ (∀ q, q ≠ dst → t.readReg q = s.readReg q) ∧
        FlagsKept s t ∧ StoresNothing s t ∧
        t = { s with af := t.af, bc := t.bc, de := t.de, hl := t.hl, bus := s.bus ++ s.readRequests s.hl }

/-- For every LD (HL),r (H and L included) and for LD (HL),d8: the encodings are 01 110 sss and 0x36 n; it completes; in
RAM address HL then holds the register or the operand, every other address outside external regions reads as before,
one write of HL is requested, and registers, flags and every other field are as before. [stated: R103; R104] -/
def Obligations.StoresAtHlWriteOneByte : Prop :=
  ∀ (i : Instr) (v : Byte) (bytes : List Byte) (s : State),
    ((∃ src : Reg8, i.form = .ldMemReg src ∧ v = s.readReg src ∧ bytes = [0b01#2 ++ 0b110#3 ++ src.code]) ∨
        (i = .ldAtHlD8 v ∧ bytes = [0x36, v])) →
      encode i = bytes ∧
        ∃ t, exec i s = .next t ∧ StoresByte s t s.hl v ∧
          t = { s with
            mem := t.mem, ieReg := t.ieReg, ifReg := t.ifReg, bus := s.bus ++ s.writeRequests s.hl v }

/-- For LD A,(BC), LD A,(DE), LD A,(a16), LDH A,(a8) and LD A,(C), at the address BC, DE, nn, 0xFF00+n or 0xFF00+C: the
encoding is the rule's; it completes; A holds what the address reads as; one read of it is requested; flags, every
stored byte and every other field are as before. [stated: R105; R106; R109; R112; R114] -/
def Obligations.LoadsOfAThroughAnAddress : Prop :=
  ∀ (i : Instr) (a : Word) (bytes : List Byte) (s : State),
    ((i = .ldAAtBc ∧ a = s.bc ∧ bytes = [0x0A]) ∨ (i = .ldAAtDe ∧ a = s.de ∧ bytes = [0x1A]) ∨
        (i = .ldAAtA16 a ∧ bytes = [0xFA, loByte a, hiByte a]) ∨
        (∃ n : Byte, i = .ldhAAtA8 n ∧ a = 0xFF00 + n.setWidth 16 ∧ bytes = [0xF0, n]) ∨
        (i = .ldAAtC ∧ a = 0xFF00 + (s.readReg .c).setWidth 16 ∧ bytes = [0xF2])) →
      encode i = bytes ∧
        ∃ t, exec i s = .next t ∧ t.readReg .a = s.peek a ∧ FlagsKept s t ∧ StoresNothing s t ∧
          t = { s with af := t.af, bus := s.bus ++ s.readRequests a }

/-- For LD (BC),A, LD (DE),A, LD (a16),A, LDH (a8),A and LD (C),A, at the address BC, DE, nn, 0xFF00+n or 0xFF00+C: the
encoding is the rule's; it completes; in RAM the address then holds A (IE or IF does where P_IEIF_MAPPED routes it
there), every other address outside external regions reads as before, one write is requested, and registers, flags
and every other field are as before. [stated: R107; R108; R110; R111; R113] -/
def Obligations.StoresOfAThroughAnAddress : Prop :=
  ∀ (i : Instr) (a : Word) (bytes : List Byte) (s : State),
    ((i = .ldAtBcA ∧ a = s.bc ∧ bytes = [0x02]) ∨ (i = .ldAtDeA ∧ a = s.de ∧ bytes = [0x12]) ∨
        (i = .ldAtA16A a ∧ bytes = [0xEA, loByte a, hiByte a]) ∨
        (∃ n : Byte, i = .ldhAtA8A n ∧ a = 0xFF00 + n.setWidth 16 ∧ bytes = [0xE0, n]) ∨
        (i = .ldAtCA ∧ a = 0xFF00 + (s.readReg .c).setWidth 16 ∧ bytes = [0xE2])) →
      encode i = bytes ∧
        ∃ t, exec i s = .next t ∧ StoresByte s t a (s.readReg .a) ∧
          (s.params.ieIfMapped = true → a = 0xFFFF → t.ieReg = s.readReg .a) ∧
          (s.params.ieIfMapped = true → a = 0xFF0F → t.ifReg = s.readReg .a &&& 0x1F) ∧
          t = { s with
            mem := t.mem, ieReg := t.ieReg, ifReg := t.ifReg, bus := s.bus ++ s.writeRequests a (s.readReg .a) }

/-- LD (HL+),A and LD (HL-),A store A at the old HL, LD A,(HL+) and LD A,(HL-) load A from it, each with its encoding
and one request; HL then is one higher or one lower mod 2^16; flags and every other field are as before. [stated:
R115; R116; R117; R118] -/
def Obligations.HlMovesAfterItsAccess : Prop :=
  ∀ (i : Instr) (step : Word) (s : State),
    ((i = .ldAtHlIncA ∧ step = 1 ∨ i = .ldAtHlDecA ∧ step = 0xFFFF) →
        encode i = [if step = 1 then 0x22 else 0x32] ∧
          ∃ t, exec i s = .next t ∧ StoresByte s t s.hl (s.readReg .a) ∧
            t = { s with
              hl := s.hl + step, mem := t.mem, ieReg := t.ieReg, ifReg := t.ifReg,
              bus := s.bus ++ s.writeRequests s.hl (s.readReg .a) }) ∧
      ((i = .ldAAtHlInc ∧ step = 1 ∨ i = .ldAAtHlDec ∧ step = 0xFFFF) →
        encode i = [if step = 1 then 0x2A else 0x3A] ∧
          ∃ t, exec i s = .next t ∧ t.readReg .a = s.peek s.hl ∧ FlagsKept s t ∧ StoresNothing s t ∧
            t = { s with af := t.af, hl := s.hl + step, bus := s.bus ++ s.readRequests s.hl })

/-- LD rr,d16 puts the little-endian operand in BC, DE, HL or SP and changes nothing else; LD (a16),SP stores SP little-
endian at nn and nn+1 (0x0000 after 0xFFFF), in RAM these then hold it, every other address outside external regions
reads as before, and the byte writes of one WriteShort are requested; LD SP,HL copies HL to SP; each has the rule's
encoding and completes, flags untouched. [stated: R119; R120; R121] -/
def Obligations.SixteenBitLoads : Prop :=
  ∀ (i : Instr) (nn : Word) (s : State),
    (∀ rr : Pair, i.form = .ldPairImm rr nn →
        encode i = [0b00#2 ++ rr.code ++ 0b0001#4, loByte nn, hiByte nn] ∧
          ∃ t, exec i s = .next t ∧ t.readPair rr = nn ∧ (∀ q, q ≠ rr → t.readPair q = s.readPair q) ∧
            StoresNothing s t ∧ t = { s with bc := t.bc, de := t.de, hl := t.hl, sp := t.sp }) ∧
      (i = .ldAtA16Sp nn →
        encode i = [0x08, loByte nn, hiByte nn] ∧
          ∃ t, exec i s = .next t ∧ StoresWord s t nn s.sp ∧
            t = { s with
              mem := t.mem, ieReg := t.ieReg, ifReg := t.ifReg, bus := s.bus ++ s.shortRequests nn s.sp }) ∧
      (i = .ldSpHl → encode i = [0xF9] ∧ exec i s = .next { s with sp := s.hl })

/-- For every PUSH rr (BC, DE, HL, AF): its encoding is 11 qq 0101; it completes; SP is two lower mod 2^16, the pair (AF
with F[3:0] zero) is stored little-endian at the new SP and the address above it (in RAM these then hold it) by one
WriteShort, every other address outside external regions reads as before, and registers, flags and every other field
are as before. [stated: R122; R57] -/
def Obligations.PushStoresThePairBelowSp : Prop :=
  ∀ (i : Instr) (rr : StackPair) (s : State), i.form = .push rr →
    encode i = [0b11#2 ++ rr.code ++ 0b0101#4] ∧
      ∃ t, exec i s = .next t ∧ t.sp = s.sp - 2 ∧ StoresWord s t (s.sp - 2) (s.readStackPair rr) ∧
        (rr = .af → s.readStackPair rr = s.af &&& 0xFFF0) ∧
        t = { s with
          sp := t.sp, mem := t.mem, ieReg := t.ieReg, ifReg := t.ifReg,
          bus := s.bus ++ s.shortRequests (s.sp - 2) (s.readStackPair rr) }

/-- POP BC, POP DE and POP HL put {byte at SP+1, byte at SP} in the pair, flags untouched; POP AF puts the byte at SP+1
in A and the byte at SP with its low nibble dropped in F, so Z N H C are bits 7 to 4 of it; SP is two higher mod
2^16; the two reads are requested low byte first; nothing else changes. [stated: R123; R124] -/
def Obligations.PopLoadsThePairAtSp : Prop :=
  ∀ (i : Instr) (rr : StackPair) (s : State), i.form = .pop rr →
    encode i = [0b11#2 ++ rr.code ++ 0b0001#4] ∧
      ∃ t, exec i s = .next t ∧ t.sp = s.sp + 2 ∧ StoresNothing s t ∧
        (rr ≠ .af → t.readStackPair rr = s.peekNext s.sp ++ s.peek s.sp ∧ FlagsKept s t) ∧
        (rr = .af → t.readReg .a = s.peekNext s.sp ∧ t.regF = s.peek s.sp &&& 0xF0 ∧
          t.flag .z = (s.peek s.sp).getLsbD 7 ∧ t.flag .n = (s.peek s.sp).getLsbD 6 ∧
          t.flag .h = (s.peek s.sp).getLsbD 5 ∧ t.flag .c = (s.peek s.sp).getLsbD 4) ∧
        (∀ q, q ≠ rr → t.readStackPair q = s.readStackPair q) ∧
        t = { s with
          af := t.af, bc := t.bc, de := t.de, hl := t.hl, sp := t.sp,
          bus := s.bus ++ s.readRequests s.sp ++ s.readRequests (s.sp + 1) }

/-- For ADD A,r8, ADD A,d8, ADC A,r8 and ADC A,d8 ((HL) and A as operand included): the encoding is the rule's; it
completes; with the carry in c (0 for ADD, the C flag for ADC) A is A+v+c mod 256, Z says the result is 0, N is
clear, H says the low nibbles and c sum above 15, C says the whole sum is above 255; every stored byte and every
field but AF and the read of (HL) is as before. [stated: R132; R133; R140; R141; R142; R143] -/
def Obligations.AddAndAdcSumWithCarryFlags : Prop :=
  ∀ (i : Instr) (v : Byte) (c : Nat) (reads : List Request) (bytes : List Byte) (s : State),
    ((((∃ src, i.form = .aluReg .add src ∧ v = s.readLoc src ∧ reads = s.locRequests src ∧
        bytes = [0b10#2 ++ 0b000#3 ++ src.code]) ∨
      (i.form = .aluImm .add v ∧ reads = [] ∧ bytes = [0b11#2 ++ 0b000#3 ++ 0b110#3, v])) ∧ c = 0) ∨
      (((∃ src, i.form = .aluReg .adc src ∧ v = s.readLoc src ∧ reads = s.locRequests src ∧
        bytes = [0b10#2 ++ 0b001#3 ++ src.code]) ∨
      (i.form = .aluImm .adc v ∧ reads = [] ∧ bytes = [0b11#2 ++ 0b001#3 ++ 0b110#3, v])) ∧ c = (s.flag .c).toNat)) →
    encode i = bytes ∧
      ∃ t, exec i s = .next t ∧
        t.readReg .a = BitVec.ofNat 8 ((s.readReg .a).toNat + v.toNat + c) ∧
        t.flag .z = decide (((s.readReg .a).toNat + v.toNat + c) % 256 = 0) ∧ t.flag .n = false ∧
        t.flag .h = decide ((s.readReg .a).toNat % 16 + v.toNat % 16 + c > 15) ∧
        t.flag .c = decide ((s.readReg .a).toNat + v.toNat + c > 255) ∧
        StoresNothing s t ∧ t = { s with af := t.af, bus := s.bus ++ reads }

/-- For SUB r8, SUB d8, SBC A,r8 and SBC A,d8: the encoding is the rule's; it completes; with the borrow in c (0 for
SUB, the C flag for SBC) A is A-v-c mod 256, Z says the result is 0, N is set, H says A's low nibble is below v's
plus c, C says A is below v plus c; every stored byte and every field but AF and the read of (HL) is as before.
[stated: R134; R135; R144; R145; R146; R147] -/
def Obligations.SubAndSbcBorrowFlags : Prop :=
  ∀ (i : Instr) (v : Byte) (c : Nat) (reads : List Request) (bytes : List Byte) (s : State),
    ((((∃ src, i.form = .aluReg .sub src ∧ v = s.readLoc src ∧ reads = s.locRequests src ∧
        bytes = [0b10#2 ++ 0b010#3 ++ src.code]) ∨
      (i.form = .aluImm .sub v ∧ reads = [] ∧ bytes = [0b11#2 ++ 0b010#3 ++ 0b110#3, v])) ∧ c = 0) ∨
      (((∃ src, i.form = .aluReg .sbc src ∧ v = s.readLoc src ∧ reads = s.locRequests src ∧
        bytes = [0b10#2 ++ 0b011#3 ++ src.code]) ∨
      (i.form = .aluImm .sbc v ∧ reads = [] ∧ bytes = [0b11#2 ++ 0b011#3 ++ 0b110#3, v])) ∧ c = (s.flag .c).toNat)) →
    encode i = bytes ∧
      ∃ t, exec i s = .next t ∧
        t.readReg .a = BitVec.ofNat 8 ((s.readReg .a).toNat + 512 - v.toNat - c) ∧
        t.flag .z = decide (((s.readReg .a).toNat + 512 - v.toNat - c) % 256 = 0) ∧ t.flag .n = true ∧
        t.flag .h = decide ((s.readReg .a).toNat % 16 < v.toNat % 16 + c) ∧
        t.flag .c = decide ((s.readReg .a).toNat < v.toNat + c) ∧
        StoresNothing s t ∧ t = { s with af := t.af, bus := s.bus ++ reads }

/-- For AND, XOR and OR with a register, (HL) or d8 operand: the encoding is the rule's; it completes; A is the bitwise
result, Z says it is 0, N and C are clear, H is set by AND and clear after XOR and OR; every stored byte and every
field but AF and the read of (HL) is as before. [stated: R136; R137; R138; R148; R149; R150; R151; R152; R153] -/
def Obligations.LogicalOperationsAndTheirFlags : Prop :=
  ∀ (i : Instr) (v r : Byte) (isAnd : Bool) (reads : List Request) (bytes : List Byte) (s : State),
    ((((∃ src, i.form = .aluReg .and src ∧ v = s.readLoc src ∧ reads = s.locRequests src ∧
        bytes = [0b10#2 ++ 0b100#3 ++ src.code]) ∨
      (i.form = .aluImm .and v ∧ reads = [] ∧ bytes = [0b11#2 ++ 0b100#3 ++ 0b110#3, v])) ∧ r = s.readReg .a &&& v ∧ isAnd = true) ∨
      (((∃ src, i.form = .aluReg .xor src ∧ v = s.readLoc src ∧ reads = s.locRequests src ∧
        bytes = [0b10#2 ++ 0b101#3 ++ src.code]) ∨
      (i.form = .aluImm .xor v ∧ reads = [] ∧ bytes = [0b11#2 ++ 0b101#3 ++ 0b110#3, v])) ∧ r = s.readReg .a ^^^ v ∧ isAnd = false) ∨
      (((∃ src, i.form = .aluReg .or src ∧ v = s.readLoc src ∧ reads = s.locRequests src ∧
        bytes = [0b10#2 ++ 0b110#3 ++ src.code]) ∨
      (i.form = .aluImm .or v ∧ reads = [] ∧ bytes = [0b11#2 ++ 0b110#3 ++ 0b110#3, v])) ∧ r = s.readReg .a ||| v ∧ isAnd = false)) →
    encode i = bytes ∧
      ∃ t, exec i s = .next t ∧ t.readReg .a = r ∧ t.flag .z = decide (r = 0) ∧ t.flag .n = false ∧
        t.flag .h = isAnd ∧ t.flag .c = false ∧
        StoresNothing s t ∧ t = { s with af := t.af, bus := s.bus ++ reads }

/-- For CP r8 and CP d8: the encoding is the rule's; it completes; A is as before, Z says A equals v, N is set, H says
A's low nibble is below v's, C says A is below v; every stored byte and every field but AF and the read of (HL) is
as before. [stated: R139; R154; R155] -/
def Obligations.CompareKeepsA : Prop :=
  ∀ (i : Instr) (v : Byte) (reads : List Request) (bytes : List Byte) (s : State),
    ((∃ src, i.form = .aluReg .cp src ∧ v = s.readLoc src ∧ reads = s.locRequests src ∧
        bytes = [0b10#2 ++ 0b111#3 ++ src.code]) ∨
      (i.form = .aluImm .cp v ∧ reads = [] ∧ bytes = [0b11#2 ++ 0b111#3 ++ 0b110#3, v])) →
    encode i = bytes ∧
      ∃ t, exec i s = .next t ∧ t.readReg .a = s.readReg .a ∧ t.flag .z = decide (s.readReg .a = v) ∧
        t.flag .n = true ∧ t.flag .h = decide ((s.readReg .a).toNat % 16 < v.toNat % 16) ∧
        t.flag .c = decide ((s.readReg .a).toNat < v.toNat) ∧
        StoresNothing s t ∧ t = { s with af := t.af, bus := s.bus ++ reads }

/-- For INC r8 and DEC r8 on a register or (HL): the encodings are 00 ddd 100 and 00 ddd 101; it completes; the operand
is one higher or lower mod 256, Z says the result is 0, N is clear for INC and set for DEC, H says the old low
nibble was 0xF (INC) or 0 (DEC), C is as before; only the operand changes: another register no, and for the (HL)
form the result is stored at HL (in RAM HL then holds it, and no other address outside external regions reads
differently) by one read and then one write of HL. [stated: R130; R131; R156; R157] -/
def Obligations.IncAndDecKeepCarry : Prop :=
  ∀ (i : Instr) (dst : Loc8) (dec : Bool) (r : Byte) (s : State),
    ((i.form = .inc8 dst ∧ dec = false ∧ r = s.readLoc dst + 1) ∨ (i.form = .dec8 dst ∧ dec = true ∧ r = s.readLoc dst - 1)) →
    encode i = [0b00#2 ++ dst.code ++ 0b10#2 ++ BitVec.ofBool dec] ∧
      ∃ t, exec i s = .next t ∧ t.flag .z = decide (r = 0) ∧ t.flag .n = dec ∧
        t.flag .h = decide ((s.readLoc dst).toNat % 16 = if dec then 0 else 15) ∧ t.flag .c = s.flag .c ∧
        (∀ q, dst ≠ .reg q → t.readReg q = s.readReg q) ∧
        (∀ q, dst = .reg q → t.readReg q = r ∧ StoresNothing s t ∧
          t = { s with af := t.af, bc := t.bc, de := t.de, hl := t.hl }) ∧
        (dst = .atHl → StoresByte s t s.hl r ∧
          t = { s with
            af := t.af, mem := t.mem, ieReg := t.ieReg, ifReg := t.ifReg,
            bus := s.bus ++ s.readRequests s.hl ++ s.writeRequests s.hl r })

/-- DAA (0x27) completes on every input. After an addition (N=0) it adds 0x60 when C is set or A is above 0x99, and 0x06
when H is set or A's low nibble is above 9, and C becomes whether 0x60 was added; after a subtraction (N=1) it
subtracts 0x60 when C is set and 0x06 when H is set, and C is as before; Z says the new A is 0, H is clear, N is as
before, and nothing but AF changes. [stated: R158] -/
def Obligations.DaaAppliesTheCorrection : Prop :=
  ∀ s : State,
    encode .daa = [0x27] ∧
      ∃ t, exec .daa s = .next t ∧
        (s.flag .n = false →
          t.readReg .a = s.readReg .a + (if s.flag .c = true ∨ (s.readReg .a).toNat > 0x99 then 0x60 else 0) +
              (if s.flag .h = true ∨ (s.readReg .a).toNat % 16 > 9 then 0x06 else 0) ∧
            t.flag .c = decide (s.flag .c = true ∨ (s.readReg .a).toNat > 0x99)) ∧
        (s.flag .n = true →
          t.readReg .a = s.readReg .a - (if s.flag .c = true then 0x60 else 0) - (if s.flag .h = true then 0x06 else 0) ∧
            t.flag .c = s.flag .c) ∧
        t.flag .z = decide (t.readReg .a = 0) ∧ t.flag .h = false ∧ t.flag .n = s.flag .n ∧
        StoresNothing s t ∧ t = { s with af := t.af }

/-- CPL (0x2F) complements A, sets N and H and keeps Z and C; SCF (0x37) sets C, clears N and H and keeps Z and A; CCF
(0x3F) complements C, clears N and H and keeps Z and A; each completes and changes nothing but AF. [stated: R159;
R160; R161] -/
def Obligations.FlagOnlyOperations : Prop :=
  ∀ s : State,
    (encode .cpl = [0x2F] ∧
        ∃ t, exec .cpl s = .next t ∧ t.readReg .a = ~~~(s.readReg .a) ∧ t.flag .z = s.flag .z ∧ t.flag .n = true ∧
          t.flag .h = true ∧ t.flag .c = s.flag .c ∧ StoresNothing s t ∧ t = { s with af := t.af }) ∧
      (encode .scf = [0x37] ∧
        ∃ t, exec .scf s = .next t ∧ t.readReg .a = s.readReg .a ∧ t.flag .z = s.flag .z ∧ t.flag .n = false ∧
          t.flag .h = false ∧ t.flag .c = true ∧ StoresNothing s t ∧ t = { s with af := t.af }) ∧
      (encode .ccf = [0x3F] ∧
        ∃ t, exec .ccf s = .next t ∧ t.readReg .a = s.readReg .a ∧ t.flag .z = s.flag .z ∧ t.flag .n = false ∧
          t.flag .h = false ∧ t.flag .c = !s.flag .c ∧ StoresNothing s t ∧ t = { s with af := t.af })

/-- For every register r and all decimal x, y below 100: when A holds x and r holds y in BCD (tens in the high nibble),
ADD A,r then DAA leaves A the BCD of (x+y) mod 100 and C set exactly when x+y is above 99. [derived: 41_alu8.md
R132, R140 and R158; 95_test_vectors.md part 1 W5] -/
def Obligations.DaaMakesBcdSums : Prop :=
  ∀ (i : Instr) (r : Reg8) (x y : Nat) (s t u : State), i.form = .aluReg .add (.reg r) → x < 100 → y < 100 →
    s.readReg .a = BitVec.ofNat 8 (x / 10 * 16 + x % 10) → s.readReg r = BitVec.ofNat 8 (y / 10 * 16 + y % 10) →
    exec i s = .next t → exec .daa t = .next u →
      u.readReg .a = BitVec.ofNat 8 ((x + y) % 100 / 10 * 16 + (x + y) % 10) ∧ u.flag .c = decide (x + y > 99)

/-- For ADD HL,rr with rr any of BC, DE, HL, SP: its encoding is 00 pp 1001; it completes; HL is HL+rr mod 2^16, N is
clear, H says the low 12 bits carry, C says the sum is above 65535, Z and A are as before, and nothing but HL and
the flags changes. [stated: R166; R167] -/
def Obligations.AddHlPairKeepsZ : Prop :=
  ∀ (i : Instr) (rr : Pair) (s : State), i.form = .addHl rr →
    encode i = [0b00#2 ++ rr.code ++ 0b1001#4] ∧
      ∃ t, exec i s = .next t ∧ t.hl = s.hl + s.readPair rr ∧ t.flag .z = s.flag .z ∧ t.flag .n = false ∧
        t.flag .h = decide (s.hl.toNat % 4096 + (s.readPair rr).toNat % 4096 > 4095) ∧
        t.flag .c = decide (s.hl.toNat + (s.readPair rr).toNat > 65535) ∧ t.readReg .a = s.readReg .a ∧
        StoresNothing s t ∧ t = { s with af := t.af, hl := t.hl }

/-- For INC rr and DEC rr with rr any of BC, DE, HL, SP: the encodings are 00 pp 0011 and 00 pp 1011; it completes; the
pair is one higher or lower mod 2^16; the other pairs, every flag, every stored byte and every other field are as
before. [stated: R168; R169] -/
def Obligations.PairIncAndDecWriteNoFlag : Prop :=
  ∀ (i : Instr) (rr : Pair) (s : State),
    (i.form = .inc16 rr →
        encode i = [0b00#2 ++ rr.code ++ 0b0011#4] ∧
          ∃ t, exec i s = .next t ∧ t.readPair rr = s.readPair rr + 1 ∧ (∀ q, q ≠ rr → t.readPair q = s.readPair q) ∧
            StoresNothing s t ∧ t = { s with bc := t.bc, de := t.de, hl := t.hl, sp := t.sp }) ∧
      (i.form = .dec16 rr →
        encode i = [0b00#2 ++ rr.code ++ 0b1011#4] ∧
          ∃ t, exec i s = .next t ∧ t.readPair rr = s.readPair rr - 1 ∧ (∀ q, q ≠ rr → t.readPair q = s.readPair q) ∧
            StoresNothing s t ∧ t = { s with bc := t.bc, de := t.de, hl := t.hl, sp := t.sp })

/-- ADD SP,e8 (0xE8 n) puts SP plus the sign-extended n in SP, LD HL,SP+e8 (0xF8 n) puts it in HL and leaves SP; both
complete, clear Z and N, set H when the low nibbles of SP and n carry and C when the low bytes carry, and keep A;
nothing else changes. [stated: R170; R171; R172] -/
def Obligations.SpOffsetForms : Prop :=
  ∀ (n : Byte) (s : State),
    (encode (.addSpE8 n) = [0xE8, n] ∧
        ∃ t, exec (.addSpE8 n) s = .next t ∧ t.sp = BitVec.ofInt 16 (s.sp.toInt + n.toInt) ∧
          t.flag .z = false ∧ t.flag .n = false ∧ t.flag .h = decide (s.sp.toNat % 16 + n.toNat % 16 > 15) ∧
          t.flag .c = decide (s.sp.toNat % 256 + n.toNat > 255) ∧ t.readReg .a = s.readReg .a ∧
          StoresNothing s t ∧ t = { s with af := t.af, sp := t.sp }) ∧
      (encode (.ldHlSpE8 n) = [0xF8, n] ∧
        ∃ t, exec (.ldHlSpE8 n) s = .next t ∧ t.hl = BitVec.ofInt 16 (s.sp.toInt + n.toInt) ∧
          t.flag .z = false ∧ t.flag .n = false ∧ t.flag .h = decide (s.sp.toNat % 16 + n.toNat % 16 > 15) ∧
          t.flag .c = decide (s.sp.toNat % 256 + n.toNat > 255) ∧ t.readReg .a = s.readReg .a ∧
          StoresNothing s t ∧ t = { s with af := t.af, hl := t.hl })

/-- RLCA (0x07) and RRCA (0x0F) rotate A circularly left and right; RLA (0x17) and RRA (0x1F) rotate the nine bits of C
and A; C is the bit shifted out (bit 7 or bit 0); Z, N and H are clear whatever the result; each completes and
changes nothing but AF. [stated: R173; R174; R175; R176] -/
def Obligations.AccumulatorRotatesClearZ : Prop :=
  ∀ (i : Instr) (r : Byte) (c : Bool) (bytes : List Byte) (s : State),
    ((i = .rlca ∧ r = (s.readReg .a).rotateLeft 1 ∧ c = (s.readReg .a).getLsbD 7 ∧ bytes = [0x07]) ∨
        (i = .rrca ∧ r = (s.readReg .a).rotateRight 1 ∧ c = (s.readReg .a).getLsbD 0 ∧ bytes = [0x0F]) ∨
        (i = .rla ∧ r = (s.readReg .a).extractLsb' 0 7 ++ BitVec.ofBool (s.flag .c) ∧
          c = (s.readReg .a).getLsbD 7 ∧ bytes = [0x17]) ∨
        (i = .rra ∧ r = BitVec.ofBool (s.flag .c) ++ (s.readReg .a).extractLsb' 1 7 ∧
          c = (s.readReg .a).getLsbD 0 ∧ bytes = [0x1F])) →
      encode i = bytes ∧
        ∃ t, exec i s = .next t ∧ t.readReg .a = r ∧ t.flag .c = c ∧ t.flag .z = false ∧ t.flag .n = false ∧
          t.flag .h = false ∧ StoresNothing s t ∧ t = { s with af := t.af }

/-- For each of the eight CB operations on any of the eight operands: the encoding is 0xCB, 00 yyy zzz; it completes;
the operand holds the moved bits, C the bit shifted out (0 for SWAP), Z says the result is 0, N and H are clear; no
other register changes, and for the (HL) form the result is stored at HL (in RAM HL then holds it, and no other
address outside external regions reads differently) by one read and then one write of HL. [stated: R177; R178; R179;
R180; R181; R182; R183; R184; R185] -/
def Obligations.CbShiftsAndRotates : Prop :=
  ∀ (i : Instr) (op : ShiftOp) (dst : Loc8) (v r : Byte) (c : Bool) (s : State),
    i.form = .shift op dst → v = s.readLoc dst →
    ((op = .rlc ∧ r = v.rotateLeft 1 ∧ c = v.getLsbD 7) ∨ (op = .rrc ∧ r = v.rotateRight 1 ∧ c = v.getLsbD 0) ∨
        (op = .rl ∧ r = v.extractLsb' 0 7 ++ BitVec.ofBool (s.flag .c) ∧ c = v.getLsbD 7) ∨
        (op = .rr ∧ r = BitVec.ofBool (s.flag .c) ++ v.extractLsb' 1 7 ∧ c = v.getLsbD 0) ∨
        (op = .sla ∧ r = v.extractLsb' 0 7 ++ 0#1 ∧ c = v.getLsbD 7) ∨
        (op = .sra ∧ r = v.sshiftRight 1 ∧ c = v.getLsbD 0) ∨
        (op = .swap ∧ r = v.extractLsb' 0 4 ++ v.extractLsb' 4 4 ∧ c = false) ∨
        (op = .srl ∧ r = 0#1 ++ v.extractLsb' 1 7 ∧ c = v.getLsbD 0)) →
      encode i = [0xCB, 0b00#2 ++ op.code ++ dst.code] ∧
        ∃ t, exec i s = .next t ∧ t.flag .z = decide (r = 0) ∧ t.flag .n = false ∧ t.flag .h = false ∧ t.flag .c = c ∧
          (∀ q, dst ≠ .reg q → t.readReg q = s.readReg q) ∧
          (∀ q, dst = .reg q → t.readReg q = r ∧ StoresNothing s t ∧
            t = { s with af := t.af, bc := t.bc, de := t.de, hl := t.hl }) ∧
          (dst = .atHl → StoresByte s t s.hl r ∧
            t = { s with
              af := t.af, mem := t.mem, ieReg := t.ieReg, ifReg := t.ifReg,
              bus := s.bus ++ s.readRequests s.hl ++ s.writeRequests s.hl r })

/-- For every bit index 0 to 7 and every operand: the encoding is 0xCB, 01 bbb zzz; it completes; Z is the complement of
bit b of the operand, N is clear, H is set, C and A are as before; nothing is written back, and (HL) is read once.
[stated: R190] -/
def Obligations.BitTestsOneBit : Prop :=
  ∀ (i : Instr) (b : BitVec 3) (src : Loc8) (s : State), i.form = .bit b src →
    encode i = [0xCB, 0b01#2 ++ b ++ src.code] ∧
      ∃ t, exec i s = .next t ∧ t.flag .z = !(s.readLoc src).getLsbD b.toNat ∧ t.flag .n = false ∧ t.flag .h = true ∧
        t.flag .c = s.flag .c ∧ t.readReg .a = s.readReg .a ∧ StoresNothing s t ∧
        t = { s with af := t.af, bus := s.bus ++ s.locRequests src }

/-- For every bit index and operand: the encodings are 0xCB, 10 bbb zzz (RES) and 0xCB, 11 bbb zzz (SET); it completes;
bit b of the operand is 0 (RES) or 1 (SET) and its other bits are as before; flags and the other registers are as
before; for the (HL) form the result is stored at HL (in RAM HL then holds it, and no other address outside external
regions reads differently), which is read and then written even when the value is the same. [stated: R191; R192] -/
def Obligations.ResAndSetChangeOneBit : Prop :=
  ∀ (i : Instr) (b : BitVec 3) (dst : Loc8) (one : Bool) (s : State),
    ((i.form = .res b dst ∧ one = false) ∨ (i.form = .set b dst ∧ one = true)) →
    encode i = [0xCB, 0b1#1 ++ BitVec.ofBool one ++ b ++ dst.code] ∧
      ∃ r : Byte, (∀ k, k < 8 → r.getLsbD k = if k = b.toNat then one else (s.readLoc dst).getLsbD k) ∧
        ∃ t, exec i s = .next t ∧ FlagsKept s t ∧ (∀ q, dst ≠ .reg q → t.readReg q = s.readReg q) ∧
          (∀ q, dst = .reg q → t.readReg q = r ∧ StoresNothing s t ∧
            t = { s with af := t.af, bc := t.bc, de := t.de, hl := t.hl }) ∧
          (dst = .atHl → StoresByte s t s.hl r ∧
            t = { s with
              mem := t.mem, ieReg := t.ieReg, ifReg := t.ifReg,
              bus := s.bus ++ s.readRequests s.hl ++ s.writeRequests s.hl r })

/-- JP a16 puts nn in pc, JP HL puts HL in pc (no memory access), JP cc,a16 puts nn in pc when the condition holds (NZ,
Z, NC, C read Z or C) and leaves pc at the next instruction when not; the encodings are the rules'; each completes
and changes nothing else. (pc before is the address of the next instruction; StepRunsTheDecodedInstruction says how
it got there.) [stated: R201; R202; R203] -/
def Obligations.AbsoluteJumps : Prop :=
  ∀ (nn : Word) (s : State),
    (encode (.jpA16 nn) = [0xC3, loByte nn, hiByte nn] ∧ exec (.jpA16 nn) s = .next { s with pc := nn }) ∧
      (encode .jpHl = [0xE9] ∧ exec .jpHl s = .next { s with pc := s.hl }) ∧
      (∀ (i : Instr) (cc : Cond) (taken : Bool), i.form = .jpCond cc nn →
        (cc = .nz ∧ taken = !s.flag .z ∨ cc = .z ∧ taken = s.flag .z ∨ cc = .nc ∧ taken = !s.flag .c ∨
          cc = .c ∧ taken = s.flag .c) →
        encode i = [0b110#3 ++ cc.code ++ 0b010#3, loByte nn, hiByte nn] ∧
          exec i s = .next { s with pc := if taken then nn else s.pc })

/-- JR e8 adds the signed operand to pc (the address of the next instruction) mod 2^16; JR cc,e8 does so when its
condition holds and leaves pc when not; the encodings are 0x18 n and 001 cc 000 n; each completes and changes
nothing else. [stated: R204; R205] -/
def Obligations.RelativeJumps : Prop :=
  ∀ (n : Byte) (s : State),
    (encode (.jrE8 n) = [0x18, n] ∧
        exec (.jrE8 n) s = .next { s with pc := BitVec.ofInt 16 (s.pc.toInt + n.toInt) }) ∧
      (∀ (i : Instr) (cc : Cond) (taken : Bool), i.form = .jrCond cc n →
        (cc = .nz ∧ taken = !s.flag .z ∨ cc = .z ∧ taken = s.flag .z ∨ cc = .nc ∧ taken = !s.flag .c ∨
          cc = .c ∧ taken = s.flag .c) →
        encode i = [0b001#3 ++ cc.code ++ 0b000#3, n] ∧
          exec i s = .next { s with pc := if taken then BitVec.ofInt 16 (s.pc.toInt + n.toInt) else s.pc })

/-- CALL a16, a taken CALL cc,a16 and RST t store pc (the address of the next instruction) little-endian at SP-2, lower
SP by two, and put nn or 8t in pc; in RAM these then hold it, every other address outside external regions, every
register, every flag and every other field is as before; a CALL cc whose condition is false changes nothing; the
encodings are the rules'. [stated: R206; R207; R211] -/
def Obligations.CallsPushTheReturnAddress : Prop :=
  ∀ (i : Instr) (target : Word) (taken : Bool) (bytes : List Byte) (s : State),
    ((i = .callA16 target ∧ taken = true ∧ bytes = [0xCD, loByte target, hiByte target]) ∨
        (∃ cc : Cond, i.form = .callCond cc target ∧
          (cc = .nz ∧ taken = !s.flag .z ∨ cc = .z ∧ taken = s.flag .z ∨ cc = .nc ∧ taken = !s.flag .c ∨
            cc = .c ∧ taken = s.flag .c) ∧
          bytes = [0b110#3 ++ cc.code ++ 0b100#3, loByte target, hiByte target]) ∨
        (∃ k : BitVec 3, i.form = .rst k ∧ target = BitVec.ofNat 16 (8 * k.toNat) ∧ taken = true ∧
          bytes = [0b11#2 ++ k ++ 0b111#3])) →
      encode i = bytes ∧
        (taken = false → exec i s = .next s) ∧
        (taken = true → ∃ t, exec i s = .next t ∧ t.pc = target ∧ t.sp = s.sp - 2 ∧ StoresWord s t (s.sp - 2) s.pc ∧
          t = { s with
            pc := t.pc, sp := t.sp, mem := t.mem, ieReg := t.ieReg, ifReg := t.ifReg,
            bus := s.bus ++ s.shortRequests (s.sp - 2) s.pc })

/-- RET, a taken RET cc and RETI put {byte at SP+1, byte at SP} in pc and raise SP by two, with two read requests, low
byte first; RETI also sets IME and leaves ei_shadow; a RET cc whose condition is false changes nothing; every stored
byte and every other field is as before; the encodings are the rules'. [stated: R208; R209; R210] -/
def Obligations.ReturnsPopThePc : Prop :=
  ∀ (i : Instr) (taken reti : Bool) (bytes : List Byte) (s : State),
    ((i = .ret ∧ taken = true ∧ reti = false ∧ bytes = [0xC9]) ∨ (i = .reti ∧ taken = true ∧ reti = true ∧ bytes = [0xD9]) ∨
        (∃ cc : Cond, i.form = .retCond cc ∧ reti = false ∧
          (cc = .nz ∧ taken = !s.flag .z ∨ cc = .z ∧ taken = s.flag .z ∨ cc = .nc ∧ taken = !s.flag .c ∨
            cc = .c ∧ taken = s.flag .c) ∧
          bytes = [0b110#3 ++ cc.code ++ 0b000#3])) →
      encode i = bytes ∧
        (taken = false → exec i s = .next s) ∧
        (taken = true → exec i s = .next { s with
          pc := s.peekNext s.sp ++ s.peek s.sp, sp := s.sp + 2, ime := s.ime || reti,
          bus := s.bus ++ s.readRequests s.sp ++ s.readRequests (s.sp + 1) })

/-- With P_IEIF_MAPPED false and from every state whose two stack bytes are RAM, SP wrap included: after PUSH p and POP
q the pair q reads as p did (through AF's mask where q is AF); after CALL a16 and RET pc is the address after the
CALL and the general registers and flags are as before; in both SP is as before and every address outside external
regions but the two stack bytes reads as before. (What RAM and external regions are is log entry 1, the model's
choice.) [derived: 40_load.md R122 to R124; 45_control.md R206 and R208; 20_memory.md R57 and R58; 10_state.md R27;
notes/assumptions/1.md] -/
def Obligations.StackTransfersComeBack : Prop :=
  ∀ (i j : Instr) (s t u : State), s.params.ieIfMapped = false → s.kind (s.sp - 2) = .ram → s.kind (s.sp - 1) = .ram →
    exec i s = .next t → exec j t = .next u →
    (∀ p q : StackPair, i.form = .push p → j.form = .pop q →
        u.readStackPair q = (if q = .af then s.readStackPair p &&& 0xFFF0 else s.readStackPair p) ∧ u.sp = s.sp ∧
          ∀ b, b ≠ s.sp - 2 → b ≠ s.sp - 1 → s.external b = false → u.peek b = s.peek b) ∧
      (∀ nn : Word, i = .callA16 nn → j = .ret →
        u.pc = s.pc ∧ u.sp = s.sp ∧ (∀ b, b ≠ s.sp - 2 → b ≠ s.sp - 1 → s.external b = false → u.peek b = s.peek b) ∧
          u.af = s.af ∧ u.bc = s.bc ∧ u.de = s.de ∧ u.hl = s.hl)

/-- NOP (0x00) changes nothing; STOP (0x10 n) clears running for every n and changes nothing else (that 0x10 is the
STOP-class opcode is the spec's own choice D14); DI (0xF3) clears IME and ei_shadow; EI (0xFB) sets IME and
ei_shadow (the delay bit is the spec's own choice D12); each completes and changes nothing else. [derived:
46_system.md R220, R225, R226 and R227; 30_encoding.md R89; 92_eei_decisions.md D12 and D14] -/
def Obligations.NopStopDiEi : Prop :=
  ∀ (n : Byte) (s : State),
    (encode .nop = [0x00] ∧ exec .nop s = .next s) ∧
      (encode (.stop n) = [0x10, n] ∧ exec (.stop n) s = .next { s with running := false }) ∧
      (encode .di = [0xF3] ∧ exec .di s = .next { s with ime := false, eiShadow := false }) ∧
      (encode .ei = [0xFB] ∧ exec .ei s = .next { s with ime := true, eiShadow := true })

/-- HALT (0x76) completes: it sets halt_wait, except that with P_HALT_BUG on, IME 0 and an enabled request pending it
sets halt_repeat instead; nothing else changes. A commit of an implemented opcode with no, one or two operand bytes
reads these from the addresses after the opcode, lower first, and executes the instruction with halt_repeat clear
and pc past opcode and operands, or one less where halt_repeat was set (so that without an operand the byte is
executed again), and then emits the Snapshot. O59 says the same of an unimplemented opcode. (HALT's wait and the
repeat are the spec's own choice D13; that a repeated opcode reads its operand after it, and runs with pc one less,
is log entry 12.) [derived: 46_system.md R221 and R224; 30_encoding.md R75 and R76; 92_eei_decisions.md D13;
notes/assumptions/12.md] -/
def Obligations.HaltWaitsOrRepeatsTheNextByte : Prop :=
  ∀ (op : Byte) (i : Instr) (reads : List Request) (s : State),
    (encode .halt = [0x76] ∧
        exec .halt s = .next
          (if s.params.haltBug = true ∧ s.ime = false ∧ s.ieReg &&& s.ifReg &&& 0x1F ≠ 0 then
            { s with haltRepeat := true }
          else { s with haltWait := true })) ∧
      ((primary op = .bare i ∧ reads = []) ∨
          (∃ make, primary op = .imm8 make ∧ i = make (s.peek (s.pc + 1)) ∧ reads = s.readRequests (s.pc + 1)) ∨
          (∃ make, primary op = .imm16 make ∧ i = make (s.peekNext (s.pc + 1) ++ s.peek (s.pc + 1)) ∧
            reads = s.readRequests (s.pc + 1) ++ s.readRequests (s.pc + 2)) →
        op ∉ s.params.unimplemented →
        ∃ t, exec i { s with
              haltRepeat := false,
              pc := (if s.haltRepeat then s.pc else s.pc + 1) + BitVec.ofNat 16 (primary op).operandCount,
              bus := s.bus ++ reads } = .next t ∧
          commit op s = .next { t with events := t.events ++ [.snapshot t.snapshot] })

/-- For every operand byte n and every state: PREFIX CB n, performed by its fields gg yyy zzz, gives the same next state
as the sub-table row n does; the row's bytes are 0xCB n. (One opcode with a sub-table is the spec's own choice D2.)
[derived: 46_system.md R228; 30_encoding.md R86 and R87; 92_eei_decisions.md D2] -/
def Obligations.PrefixCbIsItsSubTableEntry : Prop :=
  ∀ (n : Byte) (s : State),
    encode (cbEntry n) = [0xCB, n] ∧ exec (.prefixCb n) s = exec (cbEntry n) s ∧ ∃ t, exec (.prefixCb n) s = .next t

/-- For every UNKNOWN row: its opcode is one of the 11 of R88 and its one byte; it completes by taking DecodeError:
fatal is {opcode, pc}, an Error and then an Alert with the same fields are emitted, running is 0, sched is
Halted(fatal), the session bits are clear, and every other field, pc included, is as before. (Which opcodes these
are is the spec's own choice D3; that the exception is a next state is log entry 8.) [derived: 46_system.md R235;
60_exceptions.md R240; 30_encoding.md R88; 92_eei_decisions.md D3 and D41; notes/assumptions/8.md] -/
def Obligations.UnknownOpcodesRaiseDecodeError : Prop :=
  ∀ (i : Instr) (op : Byte) (s : State), i.form = .unknown op →
    op ∈ [0xD3, 0xDB, 0xDD, 0xE3, 0xE4, 0xEB, 0xEC, 0xED, 0xF4, 0xFC, 0xFD] ∧ encode i = [op] ∧
      exec i s = .next { s with
        fatal := some ⟨op, s.pc⟩, events := s.events ++ [.error op s.pc, .alert op s.pc], running := false,
        sched := .halted, paused := false, debugMode := false, stepArmed := false, stickyStep := false,
        advance := false }

/-- For every 8-bit register and value: A, B, D, H are bits 15:8 and C, E, L bits 7:0 of AF, BC, DE, HL; after a write
the view reads the value, every other view, F, SP and PC read as before, and no other field changes. A read of BC,
DE, HL or AF is its high view followed by its low one, and a read of SP is SP; a write of w to BC, DE, HL or SP
makes the pair read w and its high and low views w[15:8] and w[7:0], the other pairs read as before, and no other
field changes; a write of w to AF makes A read w[15:8] and the flags Z, N, H, C bits 7 to 4 of w, and changes
nothing else (F[3:0] is R27, in O36 and O58). Push16 of PC stores PC[7:0] at SP-2 and PC[15:8] at SP-1, where these
keep writes. [stated: R22; R23; R24] -/
def Obligations.ByteViewWritesChangeOneByte : Prop :=
  ∀ (r : Reg8) (rr : Pair) (v : Byte) (w : Word) (s : State),
    (s.readReg .a = s.af.extractLsb' 8 8 ∧ s.readReg .b = s.bc.extractLsb' 8 8 ∧ s.readReg .c = s.bc.extractLsb' 0 8 ∧
        s.readReg .d = s.de.extractLsb' 8 8 ∧ s.readReg .e = s.de.extractLsb' 0 8 ∧
        s.readReg .h = s.hl.extractLsb' 8 8 ∧ s.readReg .l = s.hl.extractLsb' 0 8) ∧
      (s.writeReg r v).readReg r = v ∧ (∀ q, q ≠ r → (s.writeReg r v).readReg q = s.readReg q) ∧
      (s.writeReg r v).regF = s.regF ∧
      (∃ t, s.writeReg r v = t ∧ t = { s with af := t.af, bc := t.bc, de := t.de, hl := t.hl }) ∧
      (s.readPair .bc = s.readReg .b ++ s.readReg .c ∧ s.readPair .de = s.readReg .d ++ s.readReg .e ∧
        s.readPair .hl = s.readReg .h ++ s.readReg .l ∧ s.readPair .sp = s.sp ∧
        s.readStackPair .af = s.readReg .a ++ s.regF) ∧
      ((s.writePair rr w).readPair rr = w ∧ (∀ q, q ≠ rr → (s.writePair rr w).readPair q = s.readPair q) ∧
        (rr = .bc → (s.writePair rr w).readReg .b = w.extractLsb' 8 8 ∧
          (s.writePair rr w).readReg .c = w.extractLsb' 0 8 ∧ s.writePair rr w = { s with bc := w }) ∧
        (rr = .de → (s.writePair rr w).readReg .d = w.extractLsb' 8 8 ∧
          (s.writePair rr w).readReg .e = w.extractLsb' 0 8 ∧ s.writePair rr w = { s with de := w }) ∧
        (rr = .hl → (s.writePair rr w).readReg .h = w.extractLsb' 8 8 ∧
          (s.writePair rr w).readReg .l = w.extractLsb' 0 8 ∧ s.writePair rr w = { s with hl := w }) ∧
        (rr = .sp → s.writePair rr w = { s with sp := w })) ∧
      (∃ t, s.writeStackPair .af w = t ∧ t = { s with af := t.af } ∧ t.readReg .a = w.extractLsb' 8 8 ∧
        t.flag .z = w.getLsbD 7 ∧ t.flag .n = w.getLsbD 6 ∧ t.flag .h = w.getLsbD 5 ∧ t.flag .c = w.getLsbD 4) ∧
      StoresWord s (s.push16 s.pc) (s.sp - 2) s.pc

/-- For every flag: the flags are bits 7, 6, 5, 4 of F in the order Z, N, H, C; after FlagSet the flag is 1 and after
FlagClear it is 0, the other three flags and A are as before, F's low nibble reads 0, and no field but AF changes.
(That the low nibble is 0 is the spec's own choice D7; that a read masks it too is log entry 11.) [derived:
10_state.md R26, R27 and R28; 92_eei_decisions.md D7; notes/assumptions/11.md] -/
def Obligations.FlagPrimitivesTouchOneFlag : Prop :=
  ∀ (f : Flag) (s : State),
    (s.flag .z = s.regF.getLsbD 7 ∧ s.flag .n = s.regF.getLsbD 6 ∧ s.flag .h = s.regF.getLsbD 5 ∧
        s.flag .c = s.regF.getLsbD 4) ∧
      (∀ (b : Bool) (t : State), (b = true ∧ t = s.flagSet f ∨ b = false ∧ t = s.flagClear f) →
        t.flag f = b ∧ (∀ g, g ≠ f → t.flag g = s.flag g) ∧ t.readReg .a = s.readReg .a ∧ t.regF &&& 0x0F = 0 ∧
          t = { s with af := t.af })

/-- For the Memory Unit's storage as a list of cells in any order: a read of the address written gives the byte, a read
of any other address is as before, writing within the 65536 addresses keeps the canonical form, and two canonical
memories that read alike are equal. At an address not routed to IE or IF a core read answers the cell in RAM and
ROM, and in an external region what the unit answers after all that has reached it; a core write changes memory in
RAM only; with no region in the map every address is RAM (FlatRAM). (The Memory Unit as a map of regions is log
entry 1.) [derived: 20_memory.md R51, R67 and R71; 00_scope.md R6; notes/assumptions/1.md] -/
def Obligations.MemoryReadsWhatWasWritten : Prop :=
  (∀ (m : Memory) (a b : Nat) (v : Byte),
      (m.write a v).read a = v ∧ (b ≠ a → (m.write a v).read b = m.read b) ∧
        (m.wf = true → a < 65536 → (m.write a v).wf = true)) ∧
    (∀ m m' : Memory, m.wf = true → m'.wf = true → (∀ a, m.read a = m'.read a) → m = m') ∧
    ∀ (s : State) (a : Word) (v : Byte), s.reachesIE a = false → s.reachesIF a = false →
      s.peek a = (if s.kind a = .external then Config.memoryUnit s.bus a else s.mem.read a.toNat) ∧
        (s.writeByte a v).mem = (if s.kind a = .ram then s.mem.write a.toNat v else s.mem) ∧
        (s.params.memoryMap = [] → s.kind a = .ram)

/-- For every address, 0xFFFF included, and every value and parameter: after WriteShort the low byte is at the address
and the high byte one above mod 2^16 where these are RAM (or IE and IF where routed), no other address outside
external regions reads differently, and nothing but memory, IE, IF and the requests changes; where neither address
is RAM, memory is as before; with the other value of P_SHORT_WRITE_ORDER every address outside external regions,
memory, IE and IF are the same, and the two byte writes of the call come in the other order. (The order as a
parameter is the spec's own choice D18; that a unit is a map of RAM, ROM and external regions is log entry 1, the
model's choice.) [derived: 20_memory.md R54, R55 and R66; 92_eei_decisions.md D9, D18 and D19;
notes/assumptions/1.md] -/
def Obligations.ShortWritesAreLittleEndian : Prop :=
  ∀ (s t u : State) (a v : Word) (o : ShortWriteOrder), t = s.writeShort a v →
    u = ({ s with params := { s.params with shortWriteOrder := o } } : State).writeShort a v →
      StoresWord s t a v ∧
        t = { s with mem := t.mem, ieReg := t.ieReg, ifReg := t.ifReg, bus := s.bus ++ s.shortRequests a v } ∧
        (s.kind a ≠ .ram → s.kind (a + 1) ≠ .ram → t.mem = s.mem) ∧
        (∀ b, s.external b = false → u.peek b = t.peek b) ∧ u.ieReg = t.ieReg ∧ u.ifReg = t.ifReg ∧
        (∀ k, u.mem.read k = t.mem.read k) ∧
        u.bus = s.bus ++ (match o with
          | .lowFirst => s.writeRequests a (loByte v) .short ++ s.writeRequests (a + 1) (hiByte v) .short
          | .highFirst => s.writeRequests (a + 1) (hiByte v) .short ++ s.writeRequests a (loByte v) .short)

/-- For every row of the table with every operand value: the decoder, which follows the opcode maps, reads the encoder's
bytes, which follow the bit patterns, as that instruction and leaves the following bytes; PREFIX CB n alone is read
as the sub-table entry n, and a term is well-formed exactly when it is read back as itself. [derived: 30_encoding.md
R73 to R78 and R85 to R88; notes/assumptions/9.md] -/
def Obligations.DecodeReadsEveryEncoding : Prop :=
  ∀ (i : Instr) (rest : List Byte),
    decode (encode i ++ rest) = .ok (i.canon, rest) ∧ (i.wellFormed = true ↔ i.canon = i) ∧
      (∀ n, i = .prefixCb n → i.canon = cbEntry n)

/-- For every list of bytes: where the decoder answers an instruction and a rest, the instruction is well-formed and the
bytes are its encoding followed by the rest; where it refuses, there is no byte, or the opcode is known and fewer
bytes follow it than its operand count. [derived: 30_encoding.md R73, R74, R76 and R85 to R88] -/
def Obligations.EncodeRestoresDecodedBytes : Prop :=
  ∀ bs : List Byte,
    (∀ (i : Instr) (rest : List Byte), decode bs = .ok (i, rest) → i.wellFormed = true ∧ bs = encode i ++ rest) ∧
      (∀ e, decode bs = .error e →
        bs = [] ∨ ∃ op rest, bs = op :: rest ∧ rest.length < (primary op).operandCount)

/-- 3E 05 is LD A,0x05; CD 00 02 is CALL 0x0200 (low byte first); CB 37 is SWAP A; 76 is HALT and not LD (HL),(HL); D3
is an UNKNOWN opcode; FE 40 is CP 0x40. [derived: 30_encoding.md R85 and R87; 40_load.md R101; 45_control.md R206;
43_rotate_shift.md R184] -/
def Obligations.DecodeSampleWords : Prop :=
  decode [0b00111110, 0b00000101] = .ok (.ldAD8 0x05, []) ∧
    decode [0b11001101, 0b00000000, 0b00000010] = .ok (.callA16 0x0200, []) ∧
    decode [0b11001011, 0b00110111] = .ok (.swapA, []) ∧ decode [0b01110110] = .ok (.halt, []) ∧
    decode [0b11010011] = .ok (.unknownD3, []) ∧ decode [0b11111110, 0b01000000] = .ok (.cpD8 0x40, [])

/-- In a Ready state whose bytes at pc decode to a well-formed instruction i with a known opcode: step is exec of i at
the state with ei_shadow cleared, the Info event emitted, the instruction's bytes requested in increasing order and
pc past them, and then the Snapshot of the result is emitted; with an UNKNOWN opcode step is exec of i with only the
opcode read and pc not advanced. [derived: 60_exceptions.md R262 and R263; 30_encoding.md R75 and R76; 20_memory.md
R64; notes/assumptions/7.md] -/
def Obligations.StepRunsTheDecodedInstruction : Prop :=
  ∀ (s : State) (i : Instr) (rest : List Byte), s.Ready → decode s.bytesAtPc = .ok (i, rest) →
    i.wellFormed = true ∧
      (knownOpcode (s.peek s.pc) = true → ∃ t,
        exec i { s with
            eiShadow := false, pc := s.pc + BitVec.ofNat 16 (encode i).length,
            events := s.events ++ [.info (mnemonic (s.peek s.pc)) s.pc],
            bus := s.bus ++ (List.range (encode i).length).flatMap
              (fun k => s.readRequests (s.pc + BitVec.ofNat 16 k)) } = .next t ∧
          step s = .next { t with events := t.events ++ [.snapshot t.snapshot] }) ∧
      (knownOpcode (s.peek s.pc) = false →
        step s = exec i { s with eiShadow := false, bus := s.bus ++ s.readRequests s.pc })

/-- For every state, reachable or not, step answers a next state, and so does exec for every instruction: no alignment,
memory, arithmetic, stack or privilege trap exists. (That DecodeError, a fatal halt, is taken as a next state is log
entry 8, and that an idle, halted or stopped core takes steps is log entry 7: the model's choices.) [derived:
60_exceptions.md R240 and R243; 20_memory.md R60, R61 and R72; notes/assumptions/7.md; notes/assumptions/8.md] -/
def Obligations.EveryStepAnswersANextState : Prop :=
  ∀ s : State, (∃ t, step s = .next t) ∧ ∀ i : Instr, ∃ t, exec i s = .next t

/-- State.reset has AF=0x0130 (Z clear), BC=0x0013, DE=0x00D8, HL=0x014D, SP=0xFFFE, PC=0x0100, IME, IE, IF and the
hidden bits 0, sched Idle, nothing running, the session bits paused, debugMode, stepArmed, stickyStep and advance 0,
no breakpoint, fatal none, memory with nothing listed, and the default parameters; the power-up state differs in
flag Z alone. (The values are the spec's own choice D5, D6, D8; that memory lists nothing is log entry 2.) [derived:
10_state.md R44 to R47; 70_reset_and_hazards.md R291; 92_eei_decisions.md D5, D6 and D8; notes/assumptions/2.md] -/
def Obligations.ResetStateValues : Prop :=
  State.reset.regAF = 0x0130 ∧ State.reset.bc = 0x0013 ∧ State.reset.de = 0x00D8 ∧ State.reset.hl = 0x014D ∧
    State.reset.sp = 0xFFFE ∧ State.reset.pc = 0x0100 ∧ State.reset.ime = false ∧ State.reset.ieReg = 0 ∧
    State.reset.ifReg = 0 ∧ State.reset.eiShadow = false ∧ State.reset.haltWait = false ∧
    State.reset.haltRepeat = false ∧ State.reset.sched = .idle ∧ State.reset.running = false ∧
    State.reset.paused = false ∧ State.reset.debugMode = false ∧ State.reset.stepArmed = false ∧
    State.reset.stickyStep = false ∧ State.reset.advance = false ∧ State.reset.mem = [] ∧
    State.reset.breakpoints = [] ∧ State.reset.fatal = none ∧ State.reset.params = Params.defaults ∧
    State.reset = State.powerUp.flagClear .z

/-- From every state, Halted(fatal) included: the Reset call leaves the reset values in every field but memory,
requests, events, the inputs still to come and the parameters, which are as before; a second Reset changes nothing.
[derived: 70_reset_and_hazards.md R291; 60_exceptions.md R273; 92_eei_decisions.md D5, D6 and D8] -/
def Obligations.ResetSequenceRestoresEverything : Prop :=
  ∀ s : State,
    s.applyCall .reset = { State.reset with
        mem := s.mem, bus := s.bus, events := s.events, hostCalls := s.hostCalls, irqs := s.irqs, params := s.params } ∧
      (s.applyCall .reset).applyCall .reset = s.applyCall .reset

/-- Inv (canonical memory, F[3:0] and IF[7:5] zero, the breakpoints a set, the EI delay and HALT repeat bits legal,
fatal exactly in Halted, waits and session bits only in a run) holds of State.reset and of the power-up state.
[derived: 10_state.md R44 to R47; 60_exceptions.md R278] -/
def Obligations.InvariantAtReset : Prop :=
  State.reset.Inv ∧ State.powerUp.Inv

/-- For every state with Inv and whatever host calls and requests arrive: the next state has Inv. So Halted(fatal)
stands exactly with a fatal record, F[3:0] and IF[7:5] stay zero, memory stays canonical, a wait holds a decodable
opcode of a running run, and outside a run the session is discarded. [derived: 10_state.md R27, R34 to R41;
60_exceptions.md R240, R261, R266, R267 and R278] -/
def Obligations.StepKeepsTheInvariant : Prop :=
  ∀ s t : State, s.Inv → step s = .next t → t.Inv

/-- For every state with Inv and every batch of calls: u is the state once the calls of the batch are applied in their
order; Reset makes sched Idle, Start makes it Running from Idle and Stopped(normal), and no other call changes it.
Outside a run the step is u, so only a Reset leaves Halted(fatal). At a boundary: with running 0 the next sched is
Idle where a Reset was applied and Stopped(normal) otherwise; with running 1 the requests are sampled and the wake
is tested, and it is Running where the halt wait goes on; else, with op at pc after the dispatch, it is
Halted(fatal) with the record {op, pc} where op is UNKNOWN, a breakpoint there or not; else Paused with op where
paused is set; else Stepping with op where debugMode or a breakpoint at pc, and stepArmed, stickyStep or that
breakpoint, are there; else Running. In a pause-wait that no Reset ended: Stopped(normal) with running 0, the same
wait while paused is set, else Stepping where debugMode and stepArmed are set and Running otherwise. In a step-wait
that no Reset ended: Stopped(normal) with running 0, the same wait with no step-advance, else Running. A wait that a
Reset ended is left in Idle, or in Running after a Start. (One batch an observation and what one step is are log
entries 5 and 7.) [derived: 60_exceptions.md R240, R244, R261 to R269, R271, R273, R279 and R281; 46_system.md R225;
92_eei_decisions.md D24 to D27 and D29; notes/assumptions/5.md; notes/assumptions/7.md] -/
def Obligations.SchedulerTransitions : Prop :=
  ∀ s t u : State, s.Inv → step s = .next t → u = s.observe →
    ((s.hostCalls = [] → u = s) ∧
        ∀ batch later, s.hostCalls = batch :: later → u = batch.foldl State.applyCall { s with hostCalls := later }) ∧
      (∀ (v : State) (c : HostCall),
        (c = .reset → (v.applyCall c).sched = .idle) ∧
          (∀ d, c = .start d → (v.applyCall c).sched = if v.sched = .idle ∨ v.sched = .stopped then .running else v.sched) ∧
          (c ≠ .reset → (∀ d, c ≠ .start d) → (v.applyCall c).sched = v.sched)) ∧
      (s.inRun = false → t = u) ∧
      (s.sched = .halted → (∀ batch ∈ s.hostCalls.head?, HostCall.reset ∉ batch) →
        t.sched = .halted ∧ t.fatal = s.fatal) ∧
      (s.sched = .running →
        (u.running = false → t.sched = if u.sched = .idle then .idle else .stopped) ∧
          (u.running = true → u.sampleIrq.wake.haltWait = true → t.sched = .running) ∧
          (u.running = true → u.sampleIrq.wake.haltWait = false → ∀ (b : State) (op : Byte),
            b = u.sampleIrq.wake.dispatch → op = b.peek b.pc →
              t.sched =
                (if knownOpcode op = false then .halted
                else if u.paused = true then .paused op
                else if (u.debugMode = true ∨ b.pc ∈ u.breakpoints) ∧
                    (u.stepArmed = true ∨ u.stickyStep = true ∨ b.pc ∈ u.breakpoints) then .stepping op
                else .running) ∧
              (knownOpcode op = false → t.fatal = some ⟨op, b.pc⟩))) ∧
      (∀ op, s.sched = .paused op →
        (u.sched ≠ .paused op → t = u ∧ (u.sched = .idle ∨ u.sched = .running)) ∧
          (u.sched = .paused op →
            (u.running = false → t.sched = .stopped) ∧ (u.running = true → u.paused = true → t = u) ∧
              (u.running = true → u.paused = false →
                t.sched = if u.debugMode = true ∧ u.stepArmed = true then .stepping op else .running))) ∧
      (∀ op, s.sched = .stepping op →
        (u.sched ≠ .stepping op → t = u ∧ (u.sched = .idle ∨ u.sched = .running)) ∧
          (u.sched = .stepping op →
            (u.running = false → t.sched = .stopped) ∧ (u.running = true → u.advance = false → t = u) ∧
              (u.running = true → u.advance = true → t.sched = .running)))

/-- In a run at a boundary with no call or request to come, no halt wait, no pause and no dispatch, and pc in the
breakpoint set with a known opcode there: step enters the step-wait with that opcode, sets debugMode, stepArmed and
stickyStep, emits Info, requests the opcode, clears ei_shadow, and changes no register, no byte and nothing else.
And for every state that starts an iteration: a breakpoint at pc sets debugMode, stepArmed and stickyStep, a set
stickyStep sets stepArmed, and the opcode is read once; an UNKNOWN opcode then takes DecodeError with pc at it,
whatever paused and the step bits are; a known opcode emits Info and then, with paused set, enters the pause-wait
with it, else with debugMode and stepArmed set the step-wait with it, and else is committed; nothing else changes.
(A breakpoint that forces the debug mode is the spec's own choice D24, stepping that needs stepArmed D25, the pause
after the decode D26.) [derived: 60_exceptions.md R240, R244, R262 and R264 to R267; 90_conflicts.md C6, C7, C8 and
C19; 92_eei_decisions.md D24, D25 and D26] -/
def Obligations.BreakpointSuspendsBeforeExecution : Prop :=
  (∀ s : State, s.running = true → s.sched = .running → s.noInputs → s.haltWait = false → s.paused = false →
      (s.params.dispatch = .off ∨ s.eiShadow = true ∨ s.pollPending = none) → s.pc ∈ s.breakpoints →
      knownOpcode (s.peek s.pc) = true →
        step s = .next { s with
          eiShadow := false, debugMode := true, stepArmed := true, stickyStep := true, sched := .stepping (s.peek s.pc),
          events := s.events ++ [.info (mnemonic (s.peek s.pc)) s.pc], bus := s.bus ++ s.readRequests s.pc }) ∧
    ∀ (s u v : State) (op : Byte) (hit : Bool), hit = decide (s.pc ∈ s.breakpoints) → op = s.peek s.pc →
      u = { s with
          debugMode := s.debugMode || hit, stepArmed := s.stepArmed || s.stickyStep || hit,
          stickyStep := s.stickyStep || hit, bus := s.bus ++ s.readRequests s.pc } →
      v = { u with events := s.events ++ [.info (mnemonic op) s.pc] } →
        (knownOpcode op = false → iterate s = .next { u with
          fatal := some ⟨op, s.pc⟩, events := s.events ++ [.error op s.pc, .alert op s.pc], running := false,
          sched := .halted, paused := false, debugMode := false, stepArmed := false, stickyStep := false,
          advance := false }) ∧
        (knownOpcode op = true → s.paused = true → iterate s = .next { v with sched := .paused op }) ∧
        (knownOpcode op = true → s.paused = false → u.debugMode = true → u.stepArmed = true →
          iterate s = .next { v with sched := .stepping op }) ∧
        (knownOpcode op = true → s.paused = false → (u.debugMode = false ∨ u.stepArmed = false) →
          iterate s = commit op v)

/-- With no call and no request to come: a pause-wait with paused set, a step-wait with no step-advance, and a halt wait
with no enabled request pending are left exactly as they are by a step. With a batch that is one Stop, each wait
ends in Stopped(normal) with the session bits clear, pc, registers, memory and halt_wait as before and no event.
With a batch that is one SingleStep, the step-wait emits the DebugSnapshot of the state before, clears stepArmed,
and commits the opcode that was read, which is not read again. With a batch that is one Resume, the pause-wait
clears paused and enters the step-wait where debugMode and stepArmed are set, and otherwise commits the opcode that
was read. [derived: 60_exceptions.md R262, R266, R267, R269, R271 and R279; 46_system.md R222; 92_eei_decisions.md
D13, D25, D26, D27 and D30] -/
def Obligations.WaitsHoldUntilTheirCall : Prop :=
  ∀ s : State, s.running = true →
    (((∃ op, s.sched = .paused op ∧ s.paused = true) ∨ (∃ op, s.sched = .stepping op ∧ s.advance = false) ∨
          (s.sched = .running ∧ s.haltWait = true ∧ s.ieReg &&& s.ifReg &&& 0x1F = 0)) →
        (s.noInputs → step s = .next s) ∧
          (∀ later, s.hostCalls = [.stop] :: later →
            step s = .next { s with
              hostCalls := later, running := false, sched := .stopped, paused := false, debugMode := false,
              stepArmed := false, stickyStep := false, advance := false })) ∧
      (∀ op later, s.sched = .stepping op → s.hostCalls = [.singleStep] :: later →
        step s = commit op { s with
          hostCalls := later, advance := false, stepArmed := false, sched := .running,
          events := s.events ++ [.debugSnapshot s.snapshot] }) ∧
      (∀ op later, s.sched = .paused op → s.hostCalls = [.resume] :: later →
        step s =
          if s.debugMode = true ∧ s.stepArmed = true then
            .next { s with hostCalls := later, paused := false, sched := .stepping op }
          else commit op { s with hostCalls := later, paused := false, sched := .running })

/-- Start(d) in Idle or Stopped(normal) sets running, debugMode to d, sched to Running and clears paused, stepArmed,
stickyStep and advance, changing nothing else; in Halted(fatal) and in a run it changes nothing. In a run Stop
clears running, Pause sets paused, Resume clears it, SetStickyStep(true) sets stickyStep and debugMode,
SetStickyStep(false) clears stickyStep, and SingleStep sets advance in the step-wait and debugMode and stepArmed
elsewhere, each changing nothing else; outside a run all these change nothing. In every state the breakpoint calls
make IsBreakpointEnabled answer for the address as the call says and for others as before, and change nothing but
the set. A load of up to 65536 bytes outside a run puts byte k at the address plus k mod 2^16, leaves every other
cell and every other field and notes the load; in a run it changes nothing. (What calls do outside a run is the
spec's own choice D38; the load as a call, and that it has no effect in a run, is log entry 16.) [derived:
60_exceptions.md R268, R269, R270, R271, R272, R274, R277 and R280; 70_reset_and_hazards.md R294;
92_eei_decisions.md D25, D29, D38, D39 and D40; notes/assumptions/16.md] -/
def Obligations.StartBeginsARunOnlyOutsideOne : Prop :=
  ∀ (s : State) (d : Bool) (a : Word) (bytes : List Byte),
    ((s.sched = .idle ∨ s.sched = .stopped) → s.applyCall (.start d) = { s with
        running := true, debugMode := d, sched := .running, paused := false, stepArmed := false, stickyStep := false,
        advance := false }) ∧
      ((s.sched = .halted ∨ s.inRun = true) → s.applyCall (.start d) = s) ∧
      (s.inRun = false → ∀ c ∈ [HostCall.stop, .pause, .resume, .singleStep, .setStickyStep d], s.applyCall c = s) ∧
      (s.inRun = true →
        s.applyCall .stop = { s with running := false } ∧ s.applyCall .pause = { s with paused := true } ∧
          s.applyCall .resume = { s with paused := false } ∧
          s.applyCall (.setStickyStep true) = { s with stickyStep := true, debugMode := true } ∧
          s.applyCall (.setStickyStep false) = { s with stickyStep := false } ∧
          ((∃ op, s.sched = .stepping op) → s.applyCall .singleStep = { s with advance := true }) ∧
          ((∀ op, s.sched ≠ .stepping op) → s.applyCall .singleStep = { s with debugMode := true, stepArmed := true })) ∧
      (∃ t, s.applyCall (.addBreakpoint a) = t ∧ t = { s with breakpoints := t.breakpoints } ∧
        t.isBreakpointEnabled a = true ∧ ∀ b, b ≠ a → t.isBreakpointEnabled b = s.isBreakpointEnabled b) ∧
      (∃ t, s.applyCall (.removeBreakpoint a) = t ∧ t = { s with breakpoints := t.breakpoints } ∧
        t.isBreakpointEnabled a = false ∧ ∀ b, b ≠ a → t.isBreakpointEnabled b = s.isBreakpointEnabled b) ∧
      (s.inRun = true → s.applyCall (.load a bytes) = s) ∧
      (s.inRun = false → bytes.length ≤ 65536 → ∃ t, s.applyCall (.load a bytes) = t ∧
        t = { s with mem := t.mem, bus := s.bus ++ [.load a bytes] } ∧
        (∀ (k : Nat) (v : Byte), bytes[k]? = some v → t.mem.read (a + BitVec.ofNat 16 k).toNat = v) ∧
        ∀ b : Word, (∀ k, k < bytes.length → b ≠ a + BitVec.ofNat 16 k) → t.mem.read b.toNat = s.mem.read b.toNat)

/-- PollPending is none exactly when IME is 0 or IE and IF share no bit of 4:0; otherwise it is 0x40+8k for the k below
5 that is set in both and below which no index is; states with the same IME, IE and IF answer alike. [stated: R249] -/
def Obligations.PollPendingNamesTheLowestRequest : Prop :=
  ∀ s : State,
    (s.pollPending = none ↔ s.ime = false ∨ s.ieReg &&& s.ifReg &&& 0x1F = 0) ∧
      (∀ v, s.pollPending = some v → ∃ k, k < 5 ∧ v = BitVec.ofNat 16 (0x40 + 8 * k) ∧
        s.ieReg.getLsbD k = true ∧ s.ifReg.getLsbD k = true ∧
        ∀ j, j < k → (s.ieReg.getLsbD j && s.ifReg.getLsbD j) = false) ∧
      (∀ t : State, t.ime = s.ime → t.ieReg = s.ieReg → t.ifReg = s.ifReg → t.pollPending = s.pollPending)

/-- For both values of P_IEIF_MAPPED, with P_INTERRUPT_DISPATCH sm83, ei_shadow 0 and PollPending answering the vector
of k: Dispatch clears bit k of IF, leaving its other bits, and IME, and then lowers SP by two and stores the old pc
little-endian there (in RAM, or in IE and IF where routed) with the byte writes of one WriteShort and no other
request, no other address outside external regions reading differently; pc is the vector and one Snapshot is
emitted; with P_IEIF_MAPPED false IE and the other bits of IF stay as they are; AF, BC, DE, HL and the scheduler
state are as before. With dispatch off, or ei_shadow 1, or PollPending none, Dispatch changes nothing. (Dispatch as
a parameter is the spec's own choice D10; what RAM and external regions are is log entry 1, the model's choice.)
[derived: 60_exceptions.md R250, R251 and R253; 20_memory.md R57, R64 and R66; 92_eei_decisions.md D10 and D36;
notes/assumptions/1.md] -/
def Obligations.DispatchTakesThePendingInterrupt : Prop :=
  ∀ s : State,
    (∀ k, k < 5 → s.params.dispatch = .sm83 → s.eiShadow = false → s.pollPending = some (BitVec.ofNat 16 (0x40 + 8 * k)) →
        ∃ (cleared : Byte) (t : State),
          (∀ j, j < 8 → cleared.getLsbD j = (s.ifReg.getLsbD j && decide (j ≠ k))) ∧
          s.dispatch = t ∧ t.ime = false ∧ t.sp = s.sp - 2 ∧ t.pc = BitVec.ofNat 16 (0x40 + 8 * k) ∧
          t.events = s.events ++ [.snapshot t.snapshot] ∧
          StoresWord { s with ifReg := cleared } t (s.sp - 2) s.pc ∧
          (s.params.ieIfMapped = false → t.ieReg = s.ieReg ∧ t.ifReg = cleared) ∧
          t = { s with
            ime := t.ime, sp := t.sp, pc := t.pc, mem := t.mem, ieReg := t.ieReg, ifReg := t.ifReg
            bus := s.bus ++ s.shortRequests (s.sp - 2) s.pc, events := t.events }) ∧
      ((s.params.dispatch = .off ∨ s.eiShadow = true ∨ s.pollPending = none) → s.dispatch = s)

/-- The boundary that follows EI takes no interrupt whatever is pending and leaves with ei_shadow 0, so that at least
one more instruction executes; the boundary after DI takes none; after RETI with the shadow off a pending interrupt
is taken at once when dispatch is on. A step at a boundary first applies the calls of the batch; with running 0 it
then leaves the loop without sampling, wake or dispatch; with running 1 it samples the requests, then tests the
wake, and then either the halt wait goes on, with no dispatch, or Dispatch is done, ei_shadow is cleared and the
iteration starts. So with no call to come, dispatch on, ei_shadow 0 and PollPending answering v once the requests
are sampled, the iteration starts at pc v with IME 0 and SP two lower, even from the halt wait. (The delay is the
spec's own choice D12, dispatch as a parameter D10.) [derived: 10_state.md R35; 45_control.md R210; 46_system.md
R222, R226 and R227; 60_exceptions.md R248, R250, R252, R254, R263 and R279; 70_reset_and_hazards.md R297;
92_eei_decisions.md D10 and D12] -/
def Obligations.EiDelaysDispatchByOneInstruction : Prop :=
  ∀ s t : State,
    (exec .ei s = .next t → t.leaveBoundary = { t with eiShadow := false } ∧ t.leaveBoundary.ime = true) ∧
      (exec .di s = .next t → t.leaveBoundary = t) ∧
      (exec .reti s = .next t → s.params.dispatch = .sm83 → s.eiShadow = false → s.ieReg &&& s.ifReg &&& 0x1F ≠ 0 →
        t.leaveBoundary.ime = false ∧ t.leaveBoundary.sp = s.sp) ∧
      (s.sched = .running →
        (s.observe.running = false → step s = .next s.observe.exitLoop) ∧
          (s.observe.running = true → t = s.observe.sampleIrq.wake →
            (t.haltWait = true → step s = .next t) ∧
              (t.haltWait = false → step s = iterate { t.dispatch with eiShadow := false })) ∧
          (s.running = true → s.hostCalls = [] → s.params.dispatch = .sm83 → s.eiShadow = false →
            ∀ v, s.sampleIrq.pollPending = some v →
              ∃ u, step s = iterate u ∧ u.pc = v ∧ u.ime = false ∧ u.sp = s.sp - 2 ∧ u.eiShadow = false))

/-- Sampling ORs the next 5-bit request into IF (0 when none is to come) and changes nothing else but the input; the
wake clears halt_wait exactly when it is set and IE and IF share a bit of 4:0, and changes nothing else, IF and IME
included. (That P_IRQ is a list of which one draw is taken at each sampling, and 0 once it has ended, is log entry
4, the model's choice.) [derived: 46_system.md R222; 60_exceptions.md R248; 92_eei_decisions.md D11 and D13;
notes/assumptions/4.md] -/
def Obligations.WakeAndRequestSampling : Prop :=
  ∀ s : State,
    (∀ irq later, s.irqs = irq :: later → s.sampleIrq = { s with ifReg := s.ifReg ||| irq.setWidth 8, irqs := later }) ∧
      (s.irqs = [] → s.sampleIrq = s) ∧
      s.wake = { s with haltWait := s.haltWait && decide (s.ieReg &&& s.ifReg &&& 0x1F = 0) }

/-- For every instruction and every state: IME is as before unless it is EI, DI or RETI; ei_shadow unless it is EI or
DI; halt_wait and halt_repeat unless it is HALT; breakpoints, the host calls and requests to come and the parameters
always; sched, fatal, the events and the session bits unless it is an UNKNOWN row; running unless it is STOP or an
UNKNOWN row. (halt_wait and halt_repeat are the spec's own choice D13, ei_shadow D12.) [derived: 10_state.md R33,
R35, R36, R40 and R41; 46_system.md R221, R224 to R227 and R235; 45_control.md R210; 60_exceptions.md R243, R255 and
R277; 90_conflicts.md C14; 92_eei_decisions.md D12 and D13] -/
def Obligations.InstructionsKeepTheControlState : Prop :=
  ∀ (i : Instr) (s t : State), exec i s = .next t →
    (i ≠ .ei → i ≠ .di → i ≠ .reti → t.ime = s.ime) ∧ (i ≠ .ei → i ≠ .di → t.eiShadow = s.eiShadow) ∧
      (i ≠ .halt → t.haltWait = s.haltWait ∧ t.haltRepeat = s.haltRepeat) ∧
      t.breakpoints = s.breakpoints ∧ t.hostCalls = s.hostCalls ∧ t.irqs = s.irqs ∧ t.params = s.params ∧
      ((∀ op, i.form ≠ .unknown op) →
        t.sched = s.sched ∧ t.fatal = s.fatal ∧ t.events = s.events ∧ t.paused = s.paused ∧
          t.debugMode = s.debugMode ∧ t.stepArmed = s.stepArmed ∧ t.stickyStep = s.stickyStep ∧
          t.advance = s.advance ∧ ((∀ n, i ≠ .stop n) → t.running = s.running))

/-- With P_IEIF_MAPPED false: every instruction leaves IE and IF, and an instruction other than HALT run from a state
with other values of IE and IF gives the same next state but for those two. (The default of this parameter is the
spec's own choice D9.) [derived: 10_state.md R34; 20_memory.md R66; 60_exceptions.md R246; 92_eei_decisions.md D9] -/
def Obligations.UnmappedIeIfAreUnreachable : Prop :=
  ∀ (i : Instr) (s t : State) (x y : Byte), s.params.ieIfMapped = false → exec i s = .next t →
    t.ieReg = s.ieReg ∧ t.ifReg = s.ifReg ∧
      (i ≠ .halt → exec i { s with ieReg := x, ifReg := y } = .next { t with ieReg := x, ifReg := y })

/-- For every instruction of the forms R29 lists as writing no flag (INC rr, DEC rr, the loads and stack transfers but
POP AF and LD HL,SP+e8, RES, SET, the control transfers, NOP, HALT, STOP, DI, EI) and every state, all four flags
are as before; INC r8 and DEC r8 leave C. In every state AF and F read with bits 3:0 zero, and a state that stores
them zero goes to such states only, by every instruction and every host call. (That F follows the hardware's mask is
the spec's own choice D7.) [derived: 10_state.md R27 and R29; 90_conflicts.md C3 and C20; 92_eei_decisions.md D7] -/
def Obligations.WhatMayWriteTheFlagRegister : Prop :=
  ∀ (i : Instr) (s t : State), exec i s = .next t →
    ((match i.form with
        | .aluReg _ _ | .aluImm _ _ | .inc8 _ | .dec8 _ | .daa | .cpl | .scf | .ccf | .addHl _ | .addSp _ | .ldHlSp _
        | .rlca | .rrca | .rla | .rra | .shift _ _ | .bit _ _ | .pop .af | .prefixCb _ => False
        | _ => True) → FlagsKept s t) ∧
      ((∃ dst, i.form = .inc8 dst ∨ i.form = .dec8 dst) → t.flag .c = s.flag .c) ∧
      s.regF &&& 0x0F = 0 ∧ s.regAF &&& 0x000F = 0 ∧
      (s.af &&& 0x000F = 0 → t.af &&& 0x000F = 0 ∧ ∀ c : HostCall, (s.applyCall c).af &&& 0x000F = 0)

/-- For an opcode in P_UNIMPLEMENTED: the commit moves pc past the opcode and its operand bytes, or one less where
halt_repeat was set, clears halt_repeat, requests the operand bytes after the opcode, emits Warning and then
Snapshot, and changes no other register, no byte, no interrupt state and nothing else. (The class as a parameter is
the spec's own choice D4, the repeat D13; its operand bytes are log entry 12.) [derived: 46_system.md R224 and R236;
30_encoding.md R75 and R76; 00_scope.md R6; 92_eei_decisions.md D4 and D13; notes/assumptions/12.md] -/
def Obligations.UnimplementedOpcodesOnlyWarn : Prop :=
  ∀ (op : Byte) (s : State), op ∈ s.params.unimplemented →
    ∃ t, commit op s = .next t ∧
      t.pc = (if s.haltRepeat then s.pc else s.pc + 1) + BitVec.ofNat 16 (primary op).operandCount ∧ StoresNothing s t ∧
      t.events = s.events ++ [.warning (mnemonic op) s.pc, .snapshot t.snapshot] ∧
      t = { s with
        pc := t.pc, haltRepeat := false, events := t.events
        bus := s.bus ++ (List.range (primary op).operandCount).flatMap
          (fun k => s.readRequests (s.pc + BitVec.ofNat 16 (k + 1))) }

/-- For every state and step, whatever calls arrive: the old event list and the old list of what reached the Memory Unit
begin the new ones, the parameters are as before, the host calls to come are the old ones less the first batch, and
the requests to come are the old ones or the old ones less their first. (That a step takes one batch of calls is log
entry 5, that a sampling takes one draw of P_IRQ is log entry 4, and lists of what was emitted and requested as
state are log entry 6: the model's choices.) [derived: 60_exceptions.md R275, R276 and R278; 20_memory.md R63 and
R67; notes/assumptions/4.md; notes/assumptions/5.md; notes/assumptions/6.md] -/
def Obligations.ObservationOnlyGrows : Prop :=
  ∀ s t : State, step s = .next t →
    (∃ new, t.events = s.events ++ new) ∧ (∃ new, t.bus = s.bus ++ new) ∧ t.params = s.params ∧
      t.hostCalls = s.hostCalls.tail ∧ (t.irqs = s.irqs ∨ t.irqs = s.irqs.tail)
end

