-- ==== Sys2Proof/Laws/Bytes.lean ====
section
/-! SUPPORT. The byte-order helpers: a word is its two bytes (10_state.md R24), and each half of a joined pair is what was
put there. -/

namespace Sys2Proof

@[simp] theorem hiByte_joinBytes (hi lo : Byte) : hiByte (joinBytes hi lo) = hi := by
  simp only [hiByte, joinBytes]
  ext k hk
  simp only [BitVec.getElem_extractLsb', BitVec.getLsbD_append]
  rw [if_neg (by omega), show 8 + k - 8 = k by omega, BitVec.getLsbD_eq_getElem hk]

@[simp] theorem loByte_joinBytes (hi lo : Byte) : loByte (joinBytes hi lo) = lo := by
  simp only [loByte, joinBytes]
  ext k hk
  simp only [BitVec.getElem_extractLsb', BitVec.getLsbD_append]
  rw [if_pos (by omega), Nat.zero_add, BitVec.getLsbD_eq_getElem hk]

@[simp] theorem joinBytes_hiByte_loByte (v : Word) : joinBytes (hiByte v) (loByte v) = v := by
  simp only [joinBytes, hiByte, loByte]
  ext k hk
  simp only [BitVec.getElem_append, BitVec.getElem_extractLsb']
  split
  · rw [Nat.zero_add, BitVec.getLsbD_eq_getElem]
  · rw [show 8 + (k - 8) = k by omega, BitVec.getLsbD_eq_getElem]

/-- Two words with the same bytes are the same word. -/
theorem word_ext {v w : Word} (hh : hiByte v = hiByte w) (hl : loByte v = loByte w) : v = w := by
  rw [← joinBytes_hiByte_loByte v, hh, hl, joinBytes_hiByte_loByte]

end Sys2Proof
end

