-- ==== Sys2Proof/Laws/State.lean ====
section
/-! SUPPORT. What each update of the state leaves alone: one lemma per field per update, tagged for simp, so that no proof
unfolds an update to read a field it does not touch. -/

namespace Sys2Proof.Machine

/-! ### setAF -/

@[simp] theorem State.setAF_bc (s : State) (v : Word) : (s.setAF v).bc = s.bc := rfl
@[simp] theorem State.setAF_de (s : State) (v : Word) : (s.setAF v).de = s.de := rfl
@[simp] theorem State.setAF_hl (s : State) (v : Word) : (s.setAF v).hl = s.hl := rfl
@[simp] theorem State.setAF_sp (s : State) (v : Word) : (s.setAF v).sp = s.sp := rfl
@[simp] theorem State.setAF_pc (s : State) (v : Word) : (s.setAF v).pc = s.pc := rfl
@[simp] theorem State.setAF_ime (s : State) (v : Word) : (s.setAF v).ime = s.ime := rfl
@[simp] theorem State.setAF_ieReg (s : State) (v : Word) : (s.setAF v).ieReg = s.ieReg := rfl
@[simp] theorem State.setAF_ifReg (s : State) (v : Word) : (s.setAF v).ifReg = s.ifReg := rfl
@[simp] theorem State.setAF_eiShadow (s : State) (v : Word) : (s.setAF v).eiShadow = s.eiShadow := rfl
@[simp] theorem State.setAF_haltWait (s : State) (v : Word) : (s.setAF v).haltWait = s.haltWait := rfl
@[simp] theorem State.setAF_haltRepeat (s : State) (v : Word) : (s.setAF v).haltRepeat = s.haltRepeat := rfl
@[simp] theorem State.setAF_sched (s : State) (v : Word) : (s.setAF v).sched = s.sched := rfl
@[simp] theorem State.setAF_running (s : State) (v : Word) : (s.setAF v).running = s.running := rfl
@[simp] theorem State.setAF_paused (s : State) (v : Word) : (s.setAF v).paused = s.paused := rfl
@[simp] theorem State.setAF_debugMode (s : State) (v : Word) : (s.setAF v).debugMode = s.debugMode := rfl
@[simp] theorem State.setAF_stepArmed (s : State) (v : Word) : (s.setAF v).stepArmed = s.stepArmed := rfl
@[simp] theorem State.setAF_stickyStep (s : State) (v : Word) : (s.setAF v).stickyStep = s.stickyStep := rfl
@[simp] theorem State.setAF_advance (s : State) (v : Word) : (s.setAF v).advance = s.advance := rfl
@[simp] theorem State.setAF_breakpoints (s : State) (v : Word) : (s.setAF v).breakpoints = s.breakpoints := rfl
@[simp] theorem State.setAF_fatal (s : State) (v : Word) : (s.setAF v).fatal = s.fatal := rfl
@[simp] theorem State.setAF_mem (s : State) (v : Word) : (s.setAF v).mem = s.mem := rfl
@[simp] theorem State.setAF_bus (s : State) (v : Word) : (s.setAF v).bus = s.bus := rfl
@[simp] theorem State.setAF_events (s : State) (v : Word) : (s.setAF v).events = s.events := rfl
@[simp] theorem State.setAF_hostCalls (s : State) (v : Word) : (s.setAF v).hostCalls = s.hostCalls := rfl
@[simp] theorem State.setAF_irqs (s : State) (v : Word) : (s.setAF v).irqs = s.irqs := rfl
@[simp] theorem State.setAF_params (s : State) (v : Word) : (s.setAF v).params = s.params := rfl

/-! ### writeFlags -/

@[simp] theorem State.writeFlags_bc (s : State) (w : FlagWrite) : (s.writeFlags w).bc = s.bc := rfl
@[simp] theorem State.writeFlags_de (s : State) (w : FlagWrite) : (s.writeFlags w).de = s.de := rfl
@[simp] theorem State.writeFlags_hl (s : State) (w : FlagWrite) : (s.writeFlags w).hl = s.hl := rfl
@[simp] theorem State.writeFlags_sp (s : State) (w : FlagWrite) : (s.writeFlags w).sp = s.sp := rfl
@[simp] theorem State.writeFlags_pc (s : State) (w : FlagWrite) : (s.writeFlags w).pc = s.pc := rfl
@[simp] theorem State.writeFlags_ime (s : State) (w : FlagWrite) : (s.writeFlags w).ime = s.ime := rfl
@[simp] theorem State.writeFlags_ieReg (s : State) (w : FlagWrite) : (s.writeFlags w).ieReg = s.ieReg := rfl
@[simp] theorem State.writeFlags_ifReg (s : State) (w : FlagWrite) : (s.writeFlags w).ifReg = s.ifReg := rfl
@[simp] theorem State.writeFlags_eiShadow (s : State) (w : FlagWrite) : (s.writeFlags w).eiShadow = s.eiShadow := rfl
@[simp] theorem State.writeFlags_haltWait (s : State) (w : FlagWrite) : (s.writeFlags w).haltWait = s.haltWait := rfl
@[simp] theorem State.writeFlags_haltRepeat (s : State) (w : FlagWrite) : (s.writeFlags w).haltRepeat = s.haltRepeat := rfl
@[simp] theorem State.writeFlags_sched (s : State) (w : FlagWrite) : (s.writeFlags w).sched = s.sched := rfl
@[simp] theorem State.writeFlags_running (s : State) (w : FlagWrite) : (s.writeFlags w).running = s.running := rfl
@[simp] theorem State.writeFlags_paused (s : State) (w : FlagWrite) : (s.writeFlags w).paused = s.paused := rfl
@[simp] theorem State.writeFlags_debugMode (s : State) (w : FlagWrite) : (s.writeFlags w).debugMode = s.debugMode := rfl
@[simp] theorem State.writeFlags_stepArmed (s : State) (w : FlagWrite) : (s.writeFlags w).stepArmed = s.stepArmed := rfl
@[simp] theorem State.writeFlags_stickyStep (s : State) (w : FlagWrite) : (s.writeFlags w).stickyStep = s.stickyStep := rfl
@[simp] theorem State.writeFlags_advance (s : State) (w : FlagWrite) : (s.writeFlags w).advance = s.advance := rfl
@[simp] theorem State.writeFlags_breakpoints (s : State) (w : FlagWrite) : (s.writeFlags w).breakpoints = s.breakpoints := rfl
@[simp] theorem State.writeFlags_fatal (s : State) (w : FlagWrite) : (s.writeFlags w).fatal = s.fatal := rfl
@[simp] theorem State.writeFlags_mem (s : State) (w : FlagWrite) : (s.writeFlags w).mem = s.mem := rfl
@[simp] theorem State.writeFlags_bus (s : State) (w : FlagWrite) : (s.writeFlags w).bus = s.bus := rfl
@[simp] theorem State.writeFlags_events (s : State) (w : FlagWrite) : (s.writeFlags w).events = s.events := rfl
@[simp] theorem State.writeFlags_hostCalls (s : State) (w : FlagWrite) : (s.writeFlags w).hostCalls = s.hostCalls := rfl
@[simp] theorem State.writeFlags_irqs (s : State) (w : FlagWrite) : (s.writeFlags w).irqs = s.irqs := rfl
@[simp] theorem State.writeFlags_params (s : State) (w : FlagWrite) : (s.writeFlags w).params = s.params := rfl

/-! ### emit -/

@[simp] theorem State.emit_af (s : State) (e : Event) : (s.emit e).af = s.af := rfl
@[simp] theorem State.emit_bc (s : State) (e : Event) : (s.emit e).bc = s.bc := rfl
@[simp] theorem State.emit_de (s : State) (e : Event) : (s.emit e).de = s.de := rfl
@[simp] theorem State.emit_hl (s : State) (e : Event) : (s.emit e).hl = s.hl := rfl
@[simp] theorem State.emit_sp (s : State) (e : Event) : (s.emit e).sp = s.sp := rfl
@[simp] theorem State.emit_pc (s : State) (e : Event) : (s.emit e).pc = s.pc := rfl
@[simp] theorem State.emit_ime (s : State) (e : Event) : (s.emit e).ime = s.ime := rfl
@[simp] theorem State.emit_ieReg (s : State) (e : Event) : (s.emit e).ieReg = s.ieReg := rfl
@[simp] theorem State.emit_ifReg (s : State) (e : Event) : (s.emit e).ifReg = s.ifReg := rfl
@[simp] theorem State.emit_eiShadow (s : State) (e : Event) : (s.emit e).eiShadow = s.eiShadow := rfl
@[simp] theorem State.emit_haltWait (s : State) (e : Event) : (s.emit e).haltWait = s.haltWait := rfl
@[simp] theorem State.emit_haltRepeat (s : State) (e : Event) : (s.emit e).haltRepeat = s.haltRepeat := rfl
@[simp] theorem State.emit_sched (s : State) (e : Event) : (s.emit e).sched = s.sched := rfl
@[simp] theorem State.emit_running (s : State) (e : Event) : (s.emit e).running = s.running := rfl
@[simp] theorem State.emit_paused (s : State) (e : Event) : (s.emit e).paused = s.paused := rfl
@[simp] theorem State.emit_debugMode (s : State) (e : Event) : (s.emit e).debugMode = s.debugMode := rfl
@[simp] theorem State.emit_stepArmed (s : State) (e : Event) : (s.emit e).stepArmed = s.stepArmed := rfl
@[simp] theorem State.emit_stickyStep (s : State) (e : Event) : (s.emit e).stickyStep = s.stickyStep := rfl
@[simp] theorem State.emit_advance (s : State) (e : Event) : (s.emit e).advance = s.advance := rfl
@[simp] theorem State.emit_breakpoints (s : State) (e : Event) : (s.emit e).breakpoints = s.breakpoints := rfl
@[simp] theorem State.emit_fatal (s : State) (e : Event) : (s.emit e).fatal = s.fatal := rfl
@[simp] theorem State.emit_mem (s : State) (e : Event) : (s.emit e).mem = s.mem := rfl
@[simp] theorem State.emit_bus (s : State) (e : Event) : (s.emit e).bus = s.bus := rfl
@[simp] theorem State.emit_hostCalls (s : State) (e : Event) : (s.emit e).hostCalls = s.hostCalls := rfl
@[simp] theorem State.emit_irqs (s : State) (e : Event) : (s.emit e).irqs = s.irqs := rfl
@[simp] theorem State.emit_params (s : State) (e : Event) : (s.emit e).params = s.params := rfl

/-! ### clearSession -/

@[simp] theorem State.clearSession_af (s : State) : (s.clearSession).af = s.af := rfl
@[simp] theorem State.clearSession_bc (s : State) : (s.clearSession).bc = s.bc := rfl
@[simp] theorem State.clearSession_de (s : State) : (s.clearSession).de = s.de := rfl
@[simp] theorem State.clearSession_hl (s : State) : (s.clearSession).hl = s.hl := rfl
@[simp] theorem State.clearSession_sp (s : State) : (s.clearSession).sp = s.sp := rfl
@[simp] theorem State.clearSession_pc (s : State) : (s.clearSession).pc = s.pc := rfl
@[simp] theorem State.clearSession_ime (s : State) : (s.clearSession).ime = s.ime := rfl
@[simp] theorem State.clearSession_ieReg (s : State) : (s.clearSession).ieReg = s.ieReg := rfl
@[simp] theorem State.clearSession_ifReg (s : State) : (s.clearSession).ifReg = s.ifReg := rfl
@[simp] theorem State.clearSession_eiShadow (s : State) : (s.clearSession).eiShadow = s.eiShadow := rfl
@[simp] theorem State.clearSession_haltWait (s : State) : (s.clearSession).haltWait = s.haltWait := rfl
@[simp] theorem State.clearSession_haltRepeat (s : State) : (s.clearSession).haltRepeat = s.haltRepeat := rfl
@[simp] theorem State.clearSession_sched (s : State) : (s.clearSession).sched = s.sched := rfl
@[simp] theorem State.clearSession_running (s : State) : (s.clearSession).running = s.running := rfl
@[simp] theorem State.clearSession_breakpoints (s : State) : (s.clearSession).breakpoints = s.breakpoints := rfl
@[simp] theorem State.clearSession_fatal (s : State) : (s.clearSession).fatal = s.fatal := rfl
@[simp] theorem State.clearSession_mem (s : State) : (s.clearSession).mem = s.mem := rfl
@[simp] theorem State.clearSession_bus (s : State) : (s.clearSession).bus = s.bus := rfl
@[simp] theorem State.clearSession_events (s : State) : (s.clearSession).events = s.events := rfl
@[simp] theorem State.clearSession_hostCalls (s : State) : (s.clearSession).hostCalls = s.hostCalls := rfl
@[simp] theorem State.clearSession_irqs (s : State) : (s.clearSession).irqs = s.irqs := rfl
@[simp] theorem State.clearSession_params (s : State) : (s.clearSession).params = s.params := rfl

/-! ### noteRead -/

@[simp] theorem State.noteRead_af (s : State) (a : Word) : (s.noteRead a).af = s.af := by
  unfold State.noteRead; split <;> rfl
@[simp] theorem State.noteRead_bc (s : State) (a : Word) : (s.noteRead a).bc = s.bc := by
  unfold State.noteRead; split <;> rfl
@[simp] theorem State.noteRead_de (s : State) (a : Word) : (s.noteRead a).de = s.de := by
  unfold State.noteRead; split <;> rfl
@[simp] theorem State.noteRead_hl (s : State) (a : Word) : (s.noteRead a).hl = s.hl := by
  unfold State.noteRead; split <;> rfl
@[simp] theorem State.noteRead_sp (s : State) (a : Word) : (s.noteRead a).sp = s.sp := by
  unfold State.noteRead; split <;> rfl
@[simp] theorem State.noteRead_pc (s : State) (a : Word) : (s.noteRead a).pc = s.pc := by
  unfold State.noteRead; split <;> rfl
@[simp] theorem State.noteRead_ime (s : State) (a : Word) : (s.noteRead a).ime = s.ime := by
  unfold State.noteRead; split <;> rfl
@[simp] theorem State.noteRead_ieReg (s : State) (a : Word) : (s.noteRead a).ieReg = s.ieReg := by
  unfold State.noteRead; split <;> rfl
@[simp] theorem State.noteRead_ifReg (s : State) (a : Word) : (s.noteRead a).ifReg = s.ifReg := by
  unfold State.noteRead; split <;> rfl
@[simp] theorem State.noteRead_eiShadow (s : State) (a : Word) : (s.noteRead a).eiShadow = s.eiShadow := by
  unfold State.noteRead; split <;> rfl
@[simp] theorem State.noteRead_haltWait (s : State) (a : Word) : (s.noteRead a).haltWait = s.haltWait := by
  unfold State.noteRead; split <;> rfl
@[simp] theorem State.noteRead_haltRepeat (s : State) (a : Word) : (s.noteRead a).haltRepeat = s.haltRepeat := by
  unfold State.noteRead; split <;> rfl
@[simp] theorem State.noteRead_sched (s : State) (a : Word) : (s.noteRead a).sched = s.sched := by
  unfold State.noteRead; split <;> rfl
@[simp] theorem State.noteRead_running (s : State) (a : Word) : (s.noteRead a).running = s.running := by
  unfold State.noteRead; split <;> rfl
@[simp] theorem State.noteRead_paused (s : State) (a : Word) : (s.noteRead a).paused = s.paused := by
  unfold State.noteRead; split <;> rfl
@[simp] theorem State.noteRead_debugMode (s : State) (a : Word) : (s.noteRead a).debugMode = s.debugMode := by
  unfold State.noteRead; split <;> rfl
@[simp] theorem State.noteRead_stepArmed (s : State) (a : Word) : (s.noteRead a).stepArmed = s.stepArmed := by
  unfold State.noteRead; split <;> rfl
@[simp] theorem State.noteRead_stickyStep (s : State) (a : Word) : (s.noteRead a).stickyStep = s.stickyStep := by
  unfold State.noteRead; split <;> rfl
@[simp] theorem State.noteRead_advance (s : State) (a : Word) : (s.noteRead a).advance = s.advance := by
  unfold State.noteRead; split <;> rfl
@[simp] theorem State.noteRead_breakpoints (s : State) (a : Word) : (s.noteRead a).breakpoints = s.breakpoints := by
  unfold State.noteRead; split <;> rfl
@[simp] theorem State.noteRead_fatal (s : State) (a : Word) : (s.noteRead a).fatal = s.fatal := by
  unfold State.noteRead; split <;> rfl
@[simp] theorem State.noteRead_mem (s : State) (a : Word) : (s.noteRead a).mem = s.mem := by
  unfold State.noteRead; split <;> rfl
@[simp] theorem State.noteRead_events (s : State) (a : Word) : (s.noteRead a).events = s.events := by
  unfold State.noteRead; split <;> rfl
@[simp] theorem State.noteRead_hostCalls (s : State) (a : Word) : (s.noteRead a).hostCalls = s.hostCalls := by
  unfold State.noteRead; split <;> rfl
@[simp] theorem State.noteRead_irqs (s : State) (a : Word) : (s.noteRead a).irqs = s.irqs := by
  unfold State.noteRead; split <;> rfl
@[simp] theorem State.noteRead_params (s : State) (a : Word) : (s.noteRead a).params = s.params := by
  unfold State.noteRead; split <;> rfl

/-! ### writeByte -/

@[simp] theorem State.writeByte_af (s : State) (a : Word) (v : Byte) (c : WriteCall) : (s.writeByte a v c).af = s.af := by
  unfold State.writeByte; split <;> (try split) <;> rfl
@[simp] theorem State.writeByte_bc (s : State) (a : Word) (v : Byte) (c : WriteCall) : (s.writeByte a v c).bc = s.bc := by
  unfold State.writeByte; split <;> (try split) <;> rfl
@[simp] theorem State.writeByte_de (s : State) (a : Word) (v : Byte) (c : WriteCall) : (s.writeByte a v c).de = s.de := by
  unfold State.writeByte; split <;> (try split) <;> rfl
@[simp] theorem State.writeByte_hl (s : State) (a : Word) (v : Byte) (c : WriteCall) : (s.writeByte a v c).hl = s.hl := by
  unfold State.writeByte; split <;> (try split) <;> rfl
@[simp] theorem State.writeByte_sp (s : State) (a : Word) (v : Byte) (c : WriteCall) : (s.writeByte a v c).sp = s.sp := by
  unfold State.writeByte; split <;> (try split) <;> rfl
@[simp] theorem State.writeByte_pc (s : State) (a : Word) (v : Byte) (c : WriteCall) : (s.writeByte a v c).pc = s.pc := by
  unfold State.writeByte; split <;> (try split) <;> rfl
@[simp] theorem State.writeByte_ime (s : State) (a : Word) (v : Byte) (c : WriteCall) : (s.writeByte a v c).ime = s.ime := by
  unfold State.writeByte; split <;> (try split) <;> rfl
@[simp] theorem State.writeByte_eiShadow (s : State) (a : Word) (v : Byte) (c : WriteCall) : (s.writeByte a v c).eiShadow = s.eiShadow := by
  unfold State.writeByte; split <;> (try split) <;> rfl
@[simp] theorem State.writeByte_haltWait (s : State) (a : Word) (v : Byte) (c : WriteCall) : (s.writeByte a v c).haltWait = s.haltWait := by
  unfold State.writeByte; split <;> (try split) <;> rfl
@[simp] theorem State.writeByte_haltRepeat (s : State) (a : Word) (v : Byte) (c : WriteCall) : (s.writeByte a v c).haltRepeat = s.haltRepeat := by
  unfold State.writeByte; split <;> (try split) <;> rfl
@[simp] theorem State.writeByte_sched (s : State) (a : Word) (v : Byte) (c : WriteCall) : (s.writeByte a v c).sched = s.sched := by
  unfold State.writeByte; split <;> (try split) <;> rfl
@[simp] theorem State.writeByte_running (s : State) (a : Word) (v : Byte) (c : WriteCall) : (s.writeByte a v c).running = s.running := by
  unfold State.writeByte; split <;> (try split) <;> rfl
@[simp] theorem State.writeByte_paused (s : State) (a : Word) (v : Byte) (c : WriteCall) : (s.writeByte a v c).paused = s.paused := by
  unfold State.writeByte; split <;> (try split) <;> rfl
@[simp] theorem State.writeByte_debugMode (s : State) (a : Word) (v : Byte) (c : WriteCall) : (s.writeByte a v c).debugMode = s.debugMode := by
  unfold State.writeByte; split <;> (try split) <;> rfl
@[simp] theorem State.writeByte_stepArmed (s : State) (a : Word) (v : Byte) (c : WriteCall) : (s.writeByte a v c).stepArmed = s.stepArmed := by
  unfold State.writeByte; split <;> (try split) <;> rfl
@[simp] theorem State.writeByte_stickyStep (s : State) (a : Word) (v : Byte) (c : WriteCall) : (s.writeByte a v c).stickyStep = s.stickyStep := by
  unfold State.writeByte; split <;> (try split) <;> rfl
@[simp] theorem State.writeByte_advance (s : State) (a : Word) (v : Byte) (c : WriteCall) : (s.writeByte a v c).advance = s.advance := by
  unfold State.writeByte; split <;> (try split) <;> rfl
@[simp] theorem State.writeByte_breakpoints (s : State) (a : Word) (v : Byte) (c : WriteCall) : (s.writeByte a v c).breakpoints = s.breakpoints := by
  unfold State.writeByte; split <;> (try split) <;> rfl
@[simp] theorem State.writeByte_fatal (s : State) (a : Word) (v : Byte) (c : WriteCall) : (s.writeByte a v c).fatal = s.fatal := by
  unfold State.writeByte; split <;> (try split) <;> rfl
@[simp] theorem State.writeByte_events (s : State) (a : Word) (v : Byte) (c : WriteCall) : (s.writeByte a v c).events = s.events := by
  unfold State.writeByte; split <;> (try split) <;> rfl
@[simp] theorem State.writeByte_hostCalls (s : State) (a : Word) (v : Byte) (c : WriteCall) : (s.writeByte a v c).hostCalls = s.hostCalls := by
  unfold State.writeByte; split <;> (try split) <;> rfl
@[simp] theorem State.writeByte_irqs (s : State) (a : Word) (v : Byte) (c : WriteCall) : (s.writeByte a v c).irqs = s.irqs := by
  unfold State.writeByte; split <;> (try split) <;> rfl
@[simp] theorem State.writeByte_params (s : State) (a : Word) (v : Byte) (c : WriteCall) : (s.writeByte a v c).params = s.params := by
  unfold State.writeByte; split <;> (try split) <;> rfl

/-! ### writeShort -/

@[simp] theorem State.writeShort_af (s : State) (a v : Word) : (s.writeShort a v).af = s.af := by
  unfold State.writeShort; split <;> simp
@[simp] theorem State.writeShort_bc (s : State) (a v : Word) : (s.writeShort a v).bc = s.bc := by
  unfold State.writeShort; split <;> simp
@[simp] theorem State.writeShort_de (s : State) (a v : Word) : (s.writeShort a v).de = s.de := by
  unfold State.writeShort; split <;> simp
@[simp] theorem State.writeShort_hl (s : State) (a v : Word) : (s.writeShort a v).hl = s.hl := by
  unfold State.writeShort; split <;> simp
@[simp] theorem State.writeShort_sp (s : State) (a v : Word) : (s.writeShort a v).sp = s.sp := by
  unfold State.writeShort; split <;> simp
@[simp] theorem State.writeShort_pc (s : State) (a v : Word) : (s.writeShort a v).pc = s.pc := by
  unfold State.writeShort; split <;> simp
@[simp] theorem State.writeShort_ime (s : State) (a v : Word) : (s.writeShort a v).ime = s.ime := by
  unfold State.writeShort; split <;> simp
@[simp] theorem State.writeShort_eiShadow (s : State) (a v : Word) : (s.writeShort a v).eiShadow = s.eiShadow := by
  unfold State.writeShort; split <;> simp
@[simp] theorem State.writeShort_haltWait (s : State) (a v : Word) : (s.writeShort a v).haltWait = s.haltWait := by
  unfold State.writeShort; split <;> simp
@[simp] theorem State.writeShort_haltRepeat (s : State) (a v : Word) : (s.writeShort a v).haltRepeat = s.haltRepeat := by
  unfold State.writeShort; split <;> simp
@[simp] theorem State.writeShort_sched (s : State) (a v : Word) : (s.writeShort a v).sched = s.sched := by
  unfold State.writeShort; split <;> simp
@[simp] theorem State.writeShort_running (s : State) (a v : Word) : (s.writeShort a v).running = s.running := by
  unfold State.writeShort; split <;> simp
@[simp] theorem State.writeShort_paused (s : State) (a v : Word) : (s.writeShort a v).paused = s.paused := by
  unfold State.writeShort; split <;> simp
@[simp] theorem State.writeShort_debugMode (s : State) (a v : Word) : (s.writeShort a v).debugMode = s.debugMode := by
  unfold State.writeShort; split <;> simp
@[simp] theorem State.writeShort_stepArmed (s : State) (a v : Word) : (s.writeShort a v).stepArmed = s.stepArmed := by
  unfold State.writeShort; split <;> simp
@[simp] theorem State.writeShort_stickyStep (s : State) (a v : Word) : (s.writeShort a v).stickyStep = s.stickyStep := by
  unfold State.writeShort; split <;> simp
@[simp] theorem State.writeShort_advance (s : State) (a v : Word) : (s.writeShort a v).advance = s.advance := by
  unfold State.writeShort; split <;> simp
@[simp] theorem State.writeShort_breakpoints (s : State) (a v : Word) : (s.writeShort a v).breakpoints = s.breakpoints := by
  unfold State.writeShort; split <;> simp
@[simp] theorem State.writeShort_fatal (s : State) (a v : Word) : (s.writeShort a v).fatal = s.fatal := by
  unfold State.writeShort; split <;> simp
@[simp] theorem State.writeShort_events (s : State) (a v : Word) : (s.writeShort a v).events = s.events := by
  unfold State.writeShort; split <;> simp
@[simp] theorem State.writeShort_hostCalls (s : State) (a v : Word) : (s.writeShort a v).hostCalls = s.hostCalls := by
  unfold State.writeShort; split <;> simp
@[simp] theorem State.writeShort_irqs (s : State) (a v : Word) : (s.writeShort a v).irqs = s.irqs := by
  unfold State.writeShort; split <;> simp
@[simp] theorem State.writeShort_params (s : State) (a v : Word) : (s.writeShort a v).params = s.params := by
  unfold State.writeShort; split <;> simp

/-! ### push16 -/

@[simp] theorem State.push16_af (s : State) (v : Word) : (s.push16 v).af = s.af := by
  simp [State.push16]
@[simp] theorem State.push16_bc (s : State) (v : Word) : (s.push16 v).bc = s.bc := by
  simp [State.push16]
@[simp] theorem State.push16_de (s : State) (v : Word) : (s.push16 v).de = s.de := by
  simp [State.push16]
@[simp] theorem State.push16_hl (s : State) (v : Word) : (s.push16 v).hl = s.hl := by
  simp [State.push16]
@[simp] theorem State.push16_pc (s : State) (v : Word) : (s.push16 v).pc = s.pc := by
  simp [State.push16]
@[simp] theorem State.push16_ime (s : State) (v : Word) : (s.push16 v).ime = s.ime := by
  simp [State.push16]
@[simp] theorem State.push16_eiShadow (s : State) (v : Word) : (s.push16 v).eiShadow = s.eiShadow := by
  simp [State.push16]
@[simp] theorem State.push16_haltWait (s : State) (v : Word) : (s.push16 v).haltWait = s.haltWait := by
  simp [State.push16]
@[simp] theorem State.push16_haltRepeat (s : State) (v : Word) : (s.push16 v).haltRepeat = s.haltRepeat := by
  simp [State.push16]
@[simp] theorem State.push16_sched (s : State) (v : Word) : (s.push16 v).sched = s.sched := by
  simp [State.push16]
@[simp] theorem State.push16_running (s : State) (v : Word) : (s.push16 v).running = s.running := by
  simp [State.push16]
@[simp] theorem State.push16_paused (s : State) (v : Word) : (s.push16 v).paused = s.paused := by
  simp [State.push16]
@[simp] theorem State.push16_debugMode (s : State) (v : Word) : (s.push16 v).debugMode = s.debugMode := by
  simp [State.push16]
@[simp] theorem State.push16_stepArmed (s : State) (v : Word) : (s.push16 v).stepArmed = s.stepArmed := by
  simp [State.push16]
@[simp] theorem State.push16_stickyStep (s : State) (v : Word) : (s.push16 v).stickyStep = s.stickyStep := by
  simp [State.push16]
@[simp] theorem State.push16_advance (s : State) (v : Word) : (s.push16 v).advance = s.advance := by
  simp [State.push16]
@[simp] theorem State.push16_breakpoints (s : State) (v : Word) : (s.push16 v).breakpoints = s.breakpoints := by
  simp [State.push16]
@[simp] theorem State.push16_fatal (s : State) (v : Word) : (s.push16 v).fatal = s.fatal := by
  simp [State.push16]
@[simp] theorem State.push16_events (s : State) (v : Word) : (s.push16 v).events = s.events := by
  simp [State.push16]
@[simp] theorem State.push16_hostCalls (s : State) (v : Word) : (s.push16 v).hostCalls = s.hostCalls := by
  simp [State.push16]
@[simp] theorem State.push16_irqs (s : State) (v : Word) : (s.push16 v).irqs = s.irqs := by
  simp [State.push16]
@[simp] theorem State.push16_params (s : State) (v : Word) : (s.push16 v).params = s.params := by
  simp [State.push16]

/-! ### afterPop -/

@[simp] theorem State.afterPop_af (s : State) : (s.afterPop).af = s.af := by
  simp [State.afterPop]
@[simp] theorem State.afterPop_bc (s : State) : (s.afterPop).bc = s.bc := by
  simp [State.afterPop]
@[simp] theorem State.afterPop_de (s : State) : (s.afterPop).de = s.de := by
  simp [State.afterPop]
@[simp] theorem State.afterPop_hl (s : State) : (s.afterPop).hl = s.hl := by
  simp [State.afterPop]
@[simp] theorem State.afterPop_pc (s : State) : (s.afterPop).pc = s.pc := by
  simp [State.afterPop]
@[simp] theorem State.afterPop_ime (s : State) : (s.afterPop).ime = s.ime := by
  simp [State.afterPop]
@[simp] theorem State.afterPop_ieReg (s : State) : (s.afterPop).ieReg = s.ieReg := by
  simp [State.afterPop]
@[simp] theorem State.afterPop_ifReg (s : State) : (s.afterPop).ifReg = s.ifReg := by
  simp [State.afterPop]
@[simp] theorem State.afterPop_eiShadow (s : State) : (s.afterPop).eiShadow = s.eiShadow := by
  simp [State.afterPop]
@[simp] theorem State.afterPop_haltWait (s : State) : (s.afterPop).haltWait = s.haltWait := by
  simp [State.afterPop]
@[simp] theorem State.afterPop_haltRepeat (s : State) : (s.afterPop).haltRepeat = s.haltRepeat := by
  simp [State.afterPop]
@[simp] theorem State.afterPop_sched (s : State) : (s.afterPop).sched = s.sched := by
  simp [State.afterPop]
@[simp] theorem State.afterPop_running (s : State) : (s.afterPop).running = s.running := by
  simp [State.afterPop]
@[simp] theorem State.afterPop_paused (s : State) : (s.afterPop).paused = s.paused := by
  simp [State.afterPop]
@[simp] theorem State.afterPop_debugMode (s : State) : (s.afterPop).debugMode = s.debugMode := by
  simp [State.afterPop]
@[simp] theorem State.afterPop_stepArmed (s : State) : (s.afterPop).stepArmed = s.stepArmed := by
  simp [State.afterPop]
@[simp] theorem State.afterPop_stickyStep (s : State) : (s.afterPop).stickyStep = s.stickyStep := by
  simp [State.afterPop]
@[simp] theorem State.afterPop_advance (s : State) : (s.afterPop).advance = s.advance := by
  simp [State.afterPop]
@[simp] theorem State.afterPop_breakpoints (s : State) : (s.afterPop).breakpoints = s.breakpoints := by
  simp [State.afterPop]
@[simp] theorem State.afterPop_fatal (s : State) : (s.afterPop).fatal = s.fatal := by
  simp [State.afterPop]
@[simp] theorem State.afterPop_mem (s : State) : (s.afterPop).mem = s.mem := by
  simp [State.afterPop]
@[simp] theorem State.afterPop_events (s : State) : (s.afterPop).events = s.events := by
  simp [State.afterPop]
@[simp] theorem State.afterPop_hostCalls (s : State) : (s.afterPop).hostCalls = s.hostCalls := by
  simp [State.afterPop]
@[simp] theorem State.afterPop_irqs (s : State) : (s.afterPop).irqs = s.irqs := by
  simp [State.afterPop]
@[simp] theorem State.afterPop_params (s : State) : (s.afterPop).params = s.params := by
  simp [State.afterPop]

/-! ### writeReg -/

@[simp] theorem State.writeReg_sp (s : State) (r : Reg8) (v : Byte) : (s.writeReg r v).sp = s.sp := by
  cases r <;> rfl
@[simp] theorem State.writeReg_pc (s : State) (r : Reg8) (v : Byte) : (s.writeReg r v).pc = s.pc := by
  cases r <;> rfl
@[simp] theorem State.writeReg_ime (s : State) (r : Reg8) (v : Byte) : (s.writeReg r v).ime = s.ime := by
  cases r <;> rfl
@[simp] theorem State.writeReg_ieReg (s : State) (r : Reg8) (v : Byte) : (s.writeReg r v).ieReg = s.ieReg := by
  cases r <;> rfl
@[simp] theorem State.writeReg_ifReg (s : State) (r : Reg8) (v : Byte) : (s.writeReg r v).ifReg = s.ifReg := by
  cases r <;> rfl
@[simp] theorem State.writeReg_eiShadow (s : State) (r : Reg8) (v : Byte) : (s.writeReg r v).eiShadow = s.eiShadow := by
  cases r <;> rfl
@[simp] theorem State.writeReg_haltWait (s : State) (r : Reg8) (v : Byte) : (s.writeReg r v).haltWait = s.haltWait := by
  cases r <;> rfl
@[simp] theorem State.writeReg_haltRepeat (s : State) (r : Reg8) (v : Byte) : (s.writeReg r v).haltRepeat = s.haltRepeat := by
  cases r <;> rfl
@[simp] theorem State.writeReg_sched (s : State) (r : Reg8) (v : Byte) : (s.writeReg r v).sched = s.sched := by
  cases r <;> rfl
@[simp] theorem State.writeReg_running (s : State) (r : Reg8) (v : Byte) : (s.writeReg r v).running = s.running := by
  cases r <;> rfl
@[simp] theorem State.writeReg_paused (s : State) (r : Reg8) (v : Byte) : (s.writeReg r v).paused = s.paused := by
  cases r <;> rfl
@[simp] theorem State.writeReg_debugMode (s : State) (r : Reg8) (v : Byte) : (s.writeReg r v).debugMode = s.debugMode := by
  cases r <;> rfl
@[simp] theorem State.writeReg_stepArmed (s : State) (r : Reg8) (v : Byte) : (s.writeReg r v).stepArmed = s.stepArmed := by
  cases r <;> rfl
@[simp] theorem State.writeReg_stickyStep (s : State) (r : Reg8) (v : Byte) : (s.writeReg r v).stickyStep = s.stickyStep := by
  cases r <;> rfl
@[simp] theorem State.writeReg_advance (s : State) (r : Reg8) (v : Byte) : (s.writeReg r v).advance = s.advance := by
  cases r <;> rfl
@[simp] theorem State.writeReg_breakpoints (s : State) (r : Reg8) (v : Byte) : (s.writeReg r v).breakpoints = s.breakpoints := by
  cases r <;> rfl
@[simp] theorem State.writeReg_fatal (s : State) (r : Reg8) (v : Byte) : (s.writeReg r v).fatal = s.fatal := by
  cases r <;> rfl
@[simp] theorem State.writeReg_mem (s : State) (r : Reg8) (v : Byte) : (s.writeReg r v).mem = s.mem := by
  cases r <;> rfl
@[simp] theorem State.writeReg_bus (s : State) (r : Reg8) (v : Byte) : (s.writeReg r v).bus = s.bus := by
  cases r <;> rfl
@[simp] theorem State.writeReg_events (s : State) (r : Reg8) (v : Byte) : (s.writeReg r v).events = s.events := by
  cases r <;> rfl
@[simp] theorem State.writeReg_hostCalls (s : State) (r : Reg8) (v : Byte) : (s.writeReg r v).hostCalls = s.hostCalls := by
  cases r <;> rfl
@[simp] theorem State.writeReg_irqs (s : State) (r : Reg8) (v : Byte) : (s.writeReg r v).irqs = s.irqs := by
  cases r <;> rfl
@[simp] theorem State.writeReg_params (s : State) (r : Reg8) (v : Byte) : (s.writeReg r v).params = s.params := by
  cases r <;> rfl

/-! ### writePair -/

@[simp] theorem State.writePair_af (s : State) (rr : Pair) (v : Word) : (s.writePair rr v).af = s.af := by
  cases rr <;> rfl
@[simp] theorem State.writePair_pc (s : State) (rr : Pair) (v : Word) : (s.writePair rr v).pc = s.pc := by
  cases rr <;> rfl
@[simp] theorem State.writePair_ime (s : State) (rr : Pair) (v : Word) : (s.writePair rr v).ime = s.ime := by
  cases rr <;> rfl
@[simp] theorem State.writePair_ieReg (s : State) (rr : Pair) (v : Word) : (s.writePair rr v).ieReg = s.ieReg := by
  cases rr <;> rfl
@[simp] theorem State.writePair_ifReg (s : State) (rr : Pair) (v : Word) : (s.writePair rr v).ifReg = s.ifReg := by
  cases rr <;> rfl
@[simp] theorem State.writePair_eiShadow (s : State) (rr : Pair) (v : Word) : (s.writePair rr v).eiShadow = s.eiShadow := by
  cases rr <;> rfl
@[simp] theorem State.writePair_haltWait (s : State) (rr : Pair) (v : Word) : (s.writePair rr v).haltWait = s.haltWait := by
  cases rr <;> rfl
@[simp] theorem State.writePair_haltRepeat (s : State) (rr : Pair) (v : Word) : (s.writePair rr v).haltRepeat = s.haltRepeat := by
  cases rr <;> rfl
@[simp] theorem State.writePair_sched (s : State) (rr : Pair) (v : Word) : (s.writePair rr v).sched = s.sched := by
  cases rr <;> rfl
@[simp] theorem State.writePair_running (s : State) (rr : Pair) (v : Word) : (s.writePair rr v).running = s.running := by
  cases rr <;> rfl
@[simp] theorem State.writePair_paused (s : State) (rr : Pair) (v : Word) : (s.writePair rr v).paused = s.paused := by
  cases rr <;> rfl
@[simp] theorem State.writePair_debugMode (s : State) (rr : Pair) (v : Word) : (s.writePair rr v).debugMode = s.debugMode := by
  cases rr <;> rfl
@[simp] theorem State.writePair_stepArmed (s : State) (rr : Pair) (v : Word) : (s.writePair rr v).stepArmed = s.stepArmed := by
  cases rr <;> rfl
@[simp] theorem State.writePair_stickyStep (s : State) (rr : Pair) (v : Word) : (s.writePair rr v).stickyStep = s.stickyStep := by
  cases rr <;> rfl
@[simp] theorem State.writePair_advance (s : State) (rr : Pair) (v : Word) : (s.writePair rr v).advance = s.advance := by
  cases rr <;> rfl
@[simp] theorem State.writePair_breakpoints (s : State) (rr : Pair) (v : Word) : (s.writePair rr v).breakpoints = s.breakpoints := by
  cases rr <;> rfl
@[simp] theorem State.writePair_fatal (s : State) (rr : Pair) (v : Word) : (s.writePair rr v).fatal = s.fatal := by
  cases rr <;> rfl
@[simp] theorem State.writePair_mem (s : State) (rr : Pair) (v : Word) : (s.writePair rr v).mem = s.mem := by
  cases rr <;> rfl
@[simp] theorem State.writePair_bus (s : State) (rr : Pair) (v : Word) : (s.writePair rr v).bus = s.bus := by
  cases rr <;> rfl
@[simp] theorem State.writePair_events (s : State) (rr : Pair) (v : Word) : (s.writePair rr v).events = s.events := by
  cases rr <;> rfl
@[simp] theorem State.writePair_hostCalls (s : State) (rr : Pair) (v : Word) : (s.writePair rr v).hostCalls = s.hostCalls := by
  cases rr <;> rfl
@[simp] theorem State.writePair_irqs (s : State) (rr : Pair) (v : Word) : (s.writePair rr v).irqs = s.irqs := by
  cases rr <;> rfl
@[simp] theorem State.writePair_params (s : State) (rr : Pair) (v : Word) : (s.writePair rr v).params = s.params := by
  cases rr <;> rfl

/-! ### writeStackPair -/

@[simp] theorem State.writeStackPair_sp (s : State) (rr : StackPair) (v : Word) : (s.writeStackPair rr v).sp = s.sp := by
  cases rr <;> rfl
@[simp] theorem State.writeStackPair_pc (s : State) (rr : StackPair) (v : Word) : (s.writeStackPair rr v).pc = s.pc := by
  cases rr <;> rfl
@[simp] theorem State.writeStackPair_ime (s : State) (rr : StackPair) (v : Word) : (s.writeStackPair rr v).ime = s.ime := by
  cases rr <;> rfl
@[simp] theorem State.writeStackPair_ieReg (s : State) (rr : StackPair) (v : Word) : (s.writeStackPair rr v).ieReg = s.ieReg := by
  cases rr <;> rfl
@[simp] theorem State.writeStackPair_ifReg (s : State) (rr : StackPair) (v : Word) : (s.writeStackPair rr v).ifReg = s.ifReg := by
  cases rr <;> rfl
@[simp] theorem State.writeStackPair_eiShadow (s : State) (rr : StackPair) (v : Word) : (s.writeStackPair rr v).eiShadow = s.eiShadow := by
  cases rr <;> rfl
@[simp] theorem State.writeStackPair_haltWait (s : State) (rr : StackPair) (v : Word) : (s.writeStackPair rr v).haltWait = s.haltWait := by
  cases rr <;> rfl
@[simp] theorem State.writeStackPair_haltRepeat (s : State) (rr : StackPair) (v : Word) : (s.writeStackPair rr v).haltRepeat = s.haltRepeat := by
  cases rr <;> rfl
@[simp] theorem State.writeStackPair_sched (s : State) (rr : StackPair) (v : Word) : (s.writeStackPair rr v).sched = s.sched := by
  cases rr <;> rfl
@[simp] theorem State.writeStackPair_running (s : State) (rr : StackPair) (v : Word) : (s.writeStackPair rr v).running = s.running := by
  cases rr <;> rfl
@[simp] theorem State.writeStackPair_paused (s : State) (rr : StackPair) (v : Word) : (s.writeStackPair rr v).paused = s.paused := by
  cases rr <;> rfl
@[simp] theorem State.writeStackPair_debugMode (s : State) (rr : StackPair) (v : Word) : (s.writeStackPair rr v).debugMode = s.debugMode := by
  cases rr <;> rfl
@[simp] theorem State.writeStackPair_stepArmed (s : State) (rr : StackPair) (v : Word) : (s.writeStackPair rr v).stepArmed = s.stepArmed := by
  cases rr <;> rfl
@[simp] theorem State.writeStackPair_stickyStep (s : State) (rr : StackPair) (v : Word) : (s.writeStackPair rr v).stickyStep = s.stickyStep := by
  cases rr <;> rfl
@[simp] theorem State.writeStackPair_advance (s : State) (rr : StackPair) (v : Word) : (s.writeStackPair rr v).advance = s.advance := by
  cases rr <;> rfl
@[simp] theorem State.writeStackPair_breakpoints (s : State) (rr : StackPair) (v : Word) : (s.writeStackPair rr v).breakpoints = s.breakpoints := by
  cases rr <;> rfl
@[simp] theorem State.writeStackPair_fatal (s : State) (rr : StackPair) (v : Word) : (s.writeStackPair rr v).fatal = s.fatal := by
  cases rr <;> rfl
@[simp] theorem State.writeStackPair_mem (s : State) (rr : StackPair) (v : Word) : (s.writeStackPair rr v).mem = s.mem := by
  cases rr <;> rfl
@[simp] theorem State.writeStackPair_bus (s : State) (rr : StackPair) (v : Word) : (s.writeStackPair rr v).bus = s.bus := by
  cases rr <;> rfl
@[simp] theorem State.writeStackPair_events (s : State) (rr : StackPair) (v : Word) : (s.writeStackPair rr v).events = s.events := by
  cases rr <;> rfl
@[simp] theorem State.writeStackPair_hostCalls (s : State) (rr : StackPair) (v : Word) : (s.writeStackPair rr v).hostCalls = s.hostCalls := by
  cases rr <;> rfl
@[simp] theorem State.writeStackPair_irqs (s : State) (rr : StackPair) (v : Word) : (s.writeStackPair rr v).irqs = s.irqs := by
  cases rr <;> rfl
@[simp] theorem State.writeStackPair_params (s : State) (rr : StackPair) (v : Word) : (s.writeStackPair rr v).params = s.params := by
  cases rr <;> rfl

/-! ### noteLoc -/

@[simp] theorem State.noteLoc_af (s : State) (l : Loc8) : (s.noteLoc l).af = s.af := by
  cases l <;> simp [State.noteLoc]
@[simp] theorem State.noteLoc_bc (s : State) (l : Loc8) : (s.noteLoc l).bc = s.bc := by
  cases l <;> simp [State.noteLoc]
@[simp] theorem State.noteLoc_de (s : State) (l : Loc8) : (s.noteLoc l).de = s.de := by
  cases l <;> simp [State.noteLoc]
@[simp] theorem State.noteLoc_hl (s : State) (l : Loc8) : (s.noteLoc l).hl = s.hl := by
  cases l <;> simp [State.noteLoc]
@[simp] theorem State.noteLoc_sp (s : State) (l : Loc8) : (s.noteLoc l).sp = s.sp := by
  cases l <;> simp [State.noteLoc]
@[simp] theorem State.noteLoc_pc (s : State) (l : Loc8) : (s.noteLoc l).pc = s.pc := by
  cases l <;> simp [State.noteLoc]
@[simp] theorem State.noteLoc_ime (s : State) (l : Loc8) : (s.noteLoc l).ime = s.ime := by
  cases l <;> simp [State.noteLoc]
@[simp] theorem State.noteLoc_ieReg (s : State) (l : Loc8) : (s.noteLoc l).ieReg = s.ieReg := by
  cases l <;> simp [State.noteLoc]
@[simp] theorem State.noteLoc_ifReg (s : State) (l : Loc8) : (s.noteLoc l).ifReg = s.ifReg := by
  cases l <;> simp [State.noteLoc]
@[simp] theorem State.noteLoc_eiShadow (s : State) (l : Loc8) : (s.noteLoc l).eiShadow = s.eiShadow := by
  cases l <;> simp [State.noteLoc]
@[simp] theorem State.noteLoc_haltWait (s : State) (l : Loc8) : (s.noteLoc l).haltWait = s.haltWait := by
  cases l <;> simp [State.noteLoc]
@[simp] theorem State.noteLoc_haltRepeat (s : State) (l : Loc8) : (s.noteLoc l).haltRepeat = s.haltRepeat := by
  cases l <;> simp [State.noteLoc]
@[simp] theorem State.noteLoc_sched (s : State) (l : Loc8) : (s.noteLoc l).sched = s.sched := by
  cases l <;> simp [State.noteLoc]
@[simp] theorem State.noteLoc_running (s : State) (l : Loc8) : (s.noteLoc l).running = s.running := by
  cases l <;> simp [State.noteLoc]
@[simp] theorem State.noteLoc_paused (s : State) (l : Loc8) : (s.noteLoc l).paused = s.paused := by
  cases l <;> simp [State.noteLoc]
@[simp] theorem State.noteLoc_debugMode (s : State) (l : Loc8) : (s.noteLoc l).debugMode = s.debugMode := by
  cases l <;> simp [State.noteLoc]
@[simp] theorem State.noteLoc_stepArmed (s : State) (l : Loc8) : (s.noteLoc l).stepArmed = s.stepArmed := by
  cases l <;> simp [State.noteLoc]
@[simp] theorem State.noteLoc_stickyStep (s : State) (l : Loc8) : (s.noteLoc l).stickyStep = s.stickyStep := by
  cases l <;> simp [State.noteLoc]
@[simp] theorem State.noteLoc_advance (s : State) (l : Loc8) : (s.noteLoc l).advance = s.advance := by
  cases l <;> simp [State.noteLoc]
@[simp] theorem State.noteLoc_breakpoints (s : State) (l : Loc8) : (s.noteLoc l).breakpoints = s.breakpoints := by
  cases l <;> simp [State.noteLoc]
@[simp] theorem State.noteLoc_fatal (s : State) (l : Loc8) : (s.noteLoc l).fatal = s.fatal := by
  cases l <;> simp [State.noteLoc]
@[simp] theorem State.noteLoc_mem (s : State) (l : Loc8) : (s.noteLoc l).mem = s.mem := by
  cases l <;> simp [State.noteLoc]
@[simp] theorem State.noteLoc_events (s : State) (l : Loc8) : (s.noteLoc l).events = s.events := by
  cases l <;> simp [State.noteLoc]
@[simp] theorem State.noteLoc_hostCalls (s : State) (l : Loc8) : (s.noteLoc l).hostCalls = s.hostCalls := by
  cases l <;> simp [State.noteLoc]
@[simp] theorem State.noteLoc_irqs (s : State) (l : Loc8) : (s.noteLoc l).irqs = s.irqs := by
  cases l <;> simp [State.noteLoc]
@[simp] theorem State.noteLoc_params (s : State) (l : Loc8) : (s.noteLoc l).params = s.params := by
  cases l <;> simp [State.noteLoc]

/-! ### writeLoc -/

@[simp] theorem State.writeLoc_sp (s : State) (l : Loc8) (v : Byte) : (s.writeLoc l v).sp = s.sp := by
  cases l <;> simp [State.writeLoc]
@[simp] theorem State.writeLoc_pc (s : State) (l : Loc8) (v : Byte) : (s.writeLoc l v).pc = s.pc := by
  cases l <;> simp [State.writeLoc]
@[simp] theorem State.writeLoc_ime (s : State) (l : Loc8) (v : Byte) : (s.writeLoc l v).ime = s.ime := by
  cases l <;> simp [State.writeLoc]
@[simp] theorem State.writeLoc_eiShadow (s : State) (l : Loc8) (v : Byte) : (s.writeLoc l v).eiShadow = s.eiShadow := by
  cases l <;> simp [State.writeLoc]
@[simp] theorem State.writeLoc_haltWait (s : State) (l : Loc8) (v : Byte) : (s.writeLoc l v).haltWait = s.haltWait := by
  cases l <;> simp [State.writeLoc]
@[simp] theorem State.writeLoc_haltRepeat (s : State) (l : Loc8) (v : Byte) : (s.writeLoc l v).haltRepeat = s.haltRepeat := by
  cases l <;> simp [State.writeLoc]
@[simp] theorem State.writeLoc_sched (s : State) (l : Loc8) (v : Byte) : (s.writeLoc l v).sched = s.sched := by
  cases l <;> simp [State.writeLoc]
@[simp] theorem State.writeLoc_running (s : State) (l : Loc8) (v : Byte) : (s.writeLoc l v).running = s.running := by
  cases l <;> simp [State.writeLoc]
@[simp] theorem State.writeLoc_paused (s : State) (l : Loc8) (v : Byte) : (s.writeLoc l v).paused = s.paused := by
  cases l <;> simp [State.writeLoc]
@[simp] theorem State.writeLoc_debugMode (s : State) (l : Loc8) (v : Byte) : (s.writeLoc l v).debugMode = s.debugMode := by
  cases l <;> simp [State.writeLoc]
@[simp] theorem State.writeLoc_stepArmed (s : State) (l : Loc8) (v : Byte) : (s.writeLoc l v).stepArmed = s.stepArmed := by
  cases l <;> simp [State.writeLoc]
@[simp] theorem State.writeLoc_stickyStep (s : State) (l : Loc8) (v : Byte) : (s.writeLoc l v).stickyStep = s.stickyStep := by
  cases l <;> simp [State.writeLoc]
@[simp] theorem State.writeLoc_advance (s : State) (l : Loc8) (v : Byte) : (s.writeLoc l v).advance = s.advance := by
  cases l <;> simp [State.writeLoc]
@[simp] theorem State.writeLoc_breakpoints (s : State) (l : Loc8) (v : Byte) : (s.writeLoc l v).breakpoints = s.breakpoints := by
  cases l <;> simp [State.writeLoc]
@[simp] theorem State.writeLoc_fatal (s : State) (l : Loc8) (v : Byte) : (s.writeLoc l v).fatal = s.fatal := by
  cases l <;> simp [State.writeLoc]
@[simp] theorem State.writeLoc_events (s : State) (l : Loc8) (v : Byte) : (s.writeLoc l v).events = s.events := by
  cases l <;> simp [State.writeLoc]
@[simp] theorem State.writeLoc_hostCalls (s : State) (l : Loc8) (v : Byte) : (s.writeLoc l v).hostCalls = s.hostCalls := by
  cases l <;> simp [State.writeLoc]
@[simp] theorem State.writeLoc_irqs (s : State) (l : Loc8) (v : Byte) : (s.writeLoc l v).irqs = s.irqs := by
  cases l <;> simp [State.writeLoc]
@[simp] theorem State.writeLoc_params (s : State) (l : Loc8) (v : Byte) : (s.writeLoc l v).params = s.params := by
  cases l <;> simp [State.writeLoc]

end Sys2Proof.Machine
end

