-- ==== Sys2Proof/Laws/Flags.lean ====
section
/-! SUPPORT. What the flag register's operations say (10_state.md R26 to R28): each flag after a write of flags, A kept, and
F[3:0] zero. -/

namespace Sys2Proof.Machine

theorem flagByte_low (z n h c : Bool) : flagByte z n h c &&& 0x0F = 0 := by
  cases z <;> cases n <;> cases h <;> cases c <;> rfl

theorem flagByte_mask (z n h c : Bool) : flagByte z n h c &&& 0xF0 = flagByte z n h c := by
  cases z <;> cases n <;> cases h <;> cases c <;> rfl

theorem hiByte_mask (v : Word) : hiByte (v &&& 0xFFF0#16) = hiByte v := by
  simp only [hiByte]
  ext k hk
  have : k = 0 ∨ k = 1 ∨ k = 2 ∨ k = 3 ∨ k = 4 ∨ k = 5 ∨ k = 6 ∨ k = 7 := by omega
  rcases this with rfl | rfl | rfl | rfl | rfl | rfl | rfl | rfl <;> simp [BitVec.getElem_extractLsb']

theorem loByte_mask (v : Word) : loByte (v &&& 0xFFF0#16) = loByte v &&& 0xF0 := by
  simp only [loByte]
  ext k hk
  have : k = 0 ∨ k = 1 ∨ k = 2 ∨ k = 3 ∨ k = 4 ∨ k = 5 ∨ k = 6 ∨ k = 7 := by omega
  rcases this with rfl | rfl | rfl | rfl | rfl | rfl | rfl | rfl <;> simp [BitVec.getElem_extractLsb']

theorem mask_mask (v : Word) : v &&& 0xFFF0#16 &&& 0xFFF0#16 = v &&& 0xFFF0#16 := by
  rw [BitVec.and_assoc]; rfl

@[simp] theorem State.setAF_regAF (s : State) (v : Word) : (s.setAF v).regAF = v &&& 0xFFF0#16 := mask_mask v

@[simp] theorem State.setAF_af (s : State) (v : Word) : (s.setAF v).af = v &&& 0xFFF0#16 := rfl

/-- F[3:0] reads as 0 in every state (R27). -/
theorem State.regF_low (s : State) : s.regF &&& 0x0F = 0 := by
  simp only [State.regF, State.regAF, loByte_mask, BitVec.and_assoc]
  exact BitVec.and_zero

@[simp] theorem State.writeFlags_regF (s : State) (w : FlagWrite) :
    (s.writeFlags w).regF = flagByte (w.z.getD (s.flag .z)) (w.n.getD (s.flag .n)) (w.h.getD (s.flag .h))
      (w.c.getD (s.flag .c)) := by
  simp only [State.regF, State.writeFlags, State.setAF_regAF, loByte_mask, loByte_joinBytes, flagByte_mask]

theorem flagByte_z (z n h c : Bool) : (flagByte z n h c).getLsbD 7 = z := by
  cases z <;> cases n <;> cases h <;> cases c <;> rfl

theorem flagByte_n (z n h c : Bool) : (flagByte z n h c).getLsbD 6 = n := by
  cases z <;> cases n <;> cases h <;> cases c <;> rfl

theorem flagByte_h (z n h c : Bool) : (flagByte z n h c).getLsbD 5 = h := by
  cases z <;> cases n <;> cases h <;> cases c <;> rfl

theorem flagByte_c (z n h c : Bool) : (flagByte z n h c).getLsbD 4 = c := by
  cases z <;> cases n <;> cases h <;> cases c <;> rfl

/-- Each flag after a write of flags: its new value, or the old one where the operation gives none. -/
@[simp] theorem State.writeFlags_z (s : State) (w : FlagWrite) : (s.writeFlags w).flag .z = w.z.getD (s.flag .z) := by
  rw [State.flag, State.writeFlags_regF]; exact flagByte_z ..

@[simp] theorem State.writeFlags_n (s : State) (w : FlagWrite) : (s.writeFlags w).flag .n = w.n.getD (s.flag .n) := by
  rw [State.flag, State.writeFlags_regF]; exact flagByte_n ..

@[simp] theorem State.writeFlags_h (s : State) (w : FlagWrite) : (s.writeFlags w).flag .h = w.h.getD (s.flag .h) := by
  rw [State.flag, State.writeFlags_regF]; exact flagByte_h ..

@[simp] theorem State.writeFlags_c (s : State) (w : FlagWrite) : (s.writeFlags w).flag .c = w.c.getD (s.flag .c) := by
  rw [State.flag, State.writeFlags_regF]; exact flagByte_c ..

/-- A write of flags leaves A (R28). -/
@[simp] theorem State.writeFlags_hi (s : State) (w : FlagWrite) : hiByte (s.writeFlags w).af = hiByte s.af := by
  simp only [State.writeFlags, State.setAF_af, hiByte_mask, hiByte_joinBytes]

@[simp] theorem State.writeFlags_readReg (s : State) (w : FlagWrite) (r : Reg8) :
    (s.writeFlags w).readReg r = s.readReg r := by
  cases r <;> simp [State.readReg]

/-- A flag is a function of AF alone. -/
theorem State.flag_congr {s t : State} (h : t.af = s.af) (f : Flag) : t.flag f = s.flag f := by
  simp only [State.flag, State.regF, State.regAF, h]

/-- A write of A leaves every flag. -/
@[simp] theorem State.writeReg_flag (s : State) (r : Reg8) (v : Byte) (f : Flag) :
    (s.writeReg r v).flag f = s.flag f := by
  cases r <;> simp [State.writeReg, State.flag, State.regF, State.regAF, loByte_mask, BitVec.and_assoc]

/-- A register reads back what was written, and the others are as before (R23). -/
@[simp] theorem State.writeReg_readReg_same (s : State) (r : Reg8) (v : Byte) : (s.writeReg r v).readReg r = v := by
  cases r <;> simp [State.writeReg, State.readReg, hiByte_mask]

theorem State.writeReg_readReg_other (s : State) (r q : Reg8) (v : Byte) (h : q ≠ r) :
    (s.writeReg r v).readReg q = s.readReg q := by
  cases r <;> cases q <;> first | exact absurd rfl h | simp [State.writeReg, State.readReg]

/-- What a write of flags leaves in AF: A, the four flags, and zero below. -/
theorem State.writeFlags_low (s : State) (w : FlagWrite) : (s.writeFlags w).af &&& 0x000F = 0 := by
  simp only [State.writeFlags, State.setAF_af, BitVec.and_assoc]
  exact BitVec.and_zero

end Sys2Proof.Machine
end

