-- ==== Sys2Proof/Laws/Memory.lean ====
section
/-! SUPPORT. The laws of memory: a read after a write, a write elsewhere, and the canonical form that every write keeps. The first
two hold of any list of cells; the canonical form makes equal memories equal lists. -/

namespace Sys2Proof.Machine

theorem Memory.read_insert_same (m : Memory) (a : Nat) (v : Byte) : Memory.read (Memory.insert m a v) a = v := by
  induction m with
  | nil => simp [Memory.insert, Memory.read]
  | cons c rest ih =>
    obtain ⟨k, w⟩ := c
    simp only [Memory.insert]
    split
    · simp [Memory.read]
    · split
      · simp [Memory.read]
      · rename_i h
        simp [Memory.read, Ne.symm h, ih]

theorem Memory.read_insert_other (m : Memory) (a b : Nat) (v : Byte) (h : b ≠ a) :
    Memory.read (Memory.insert m a v) b = Memory.read m b := by
  induction m with
  | nil => simp [Memory.insert, Memory.read, Ne.symm h]
  | cons c rest ih =>
    obtain ⟨k, w⟩ := c
    simp only [Memory.insert]
    split
    · simp [Memory.read, Ne.symm h]
    · split
      · rename_i hk
        subst hk
        simp [Memory.read, Ne.symm h]
      · simp [Memory.read, ih]

theorem Memory.read_filter_same (m : Memory) (a : Nat) :
    Memory.read (m.filter (fun c => decide (c.1 ≠ a))) a = Memory.unlisted := by
  induction m with
  | nil => rfl
  | cons c rest ih =>
    obtain ⟨k, w⟩ := c
    by_cases hk : k = a
    · simpa [hk] using ih
    · simpa [hk, Memory.read] using ih

theorem Memory.read_filter_other (m : Memory) (a b : Nat) (h : b ≠ a) :
    Memory.read (m.filter (fun c => decide (c.1 ≠ a))) b = Memory.read m b := by
  induction m with
  | nil => rfl
  | cons c rest ih =>
    obtain ⟨k, w⟩ := c
    by_cases hk : k = a
    · simpa [hk, Memory.read, Ne.symm h] using ih
    · by_cases hb : k = b
      · simp [hb, h, Memory.read]
      · simpa [hk, hb, Memory.read] using ih

/-- A read of the address just written gives the value written (20_memory.md R71). -/
@[simp] theorem Memory.read_write_same (m : Memory) (a : Nat) (v : Byte) : (m.write a v).read a = v := by
  unfold Memory.write
  split
  · rename_i h
    rw [h, Memory.read_filter_same]
  · exact Memory.read_insert_same m a v

/-- A write leaves every other address as it was (20_memory.md R71). -/
theorem Memory.read_write_other (m : Memory) (a b : Nat) (v : Byte) (h : b ≠ a) :
    (m.write a v).read b = m.read b := by
  unfold Memory.write
  split
  · exact Memory.read_filter_other m a b h
  · exact Memory.read_insert_other m a b v h

theorem Memory.wfFrom_mono {m : Memory} {lo lo' : Nat} (h : lo' ≤ lo) (hm : Memory.wfFrom lo m = true) :
    Memory.wfFrom lo' m = true := by
  cases m with
  | nil => rfl
  | cons c rest =>
    simp only [Memory.wfFrom, Bool.and_eq_true, decide_eq_true_eq] at hm ⊢
    exact ⟨⟨⟨by omega, hm.1.1.2⟩, hm.1.2⟩, hm.2⟩

theorem Memory.wfFrom_insert {m : Memory} {lo a : Nat} {v : Byte} (hlo : lo ≤ a) (ha : a < 65536)
    (hv : v ≠ Memory.unlisted) (hm : Memory.wfFrom lo m = true) : Memory.wfFrom lo (Memory.insert m a v) = true := by
  induction m generalizing lo with
  | nil => simp [Memory.insert, Memory.wfFrom, hlo, ha, hv]
  | cons c rest ih =>
    obtain ⟨k, w⟩ := c
    simp only [Memory.wfFrom, Bool.and_eq_true, decide_eq_true_eq] at hm
    obtain ⟨⟨⟨hk, hk'⟩, hw⟩, hr⟩ := hm
    simp only [Memory.insert]
    split
    · simp only [Memory.wfFrom, Bool.and_eq_true, decide_eq_true_eq]
      exact ⟨⟨⟨hlo, ha⟩, hv⟩, ⟨⟨by omega, hk'⟩, hw⟩, hr⟩
    · split
      · rename_i hak
        subst hak
        simp only [Memory.wfFrom, Bool.and_eq_true, decide_eq_true_eq]
        exact ⟨⟨⟨hlo, ha⟩, hv⟩, hr⟩
      · simp only [Memory.wfFrom, Bool.and_eq_true, decide_eq_true_eq]
        exact ⟨⟨⟨hk, hk'⟩, hw⟩, ih (by omega) hr⟩

theorem Memory.wfFrom_filter {m : Memory} {lo a : Nat} (hm : Memory.wfFrom lo m = true) :
    Memory.wfFrom lo (m.filter (fun c => decide (c.1 ≠ a))) = true := by
  induction m generalizing lo with
  | nil => rfl
  | cons c rest ih =>
    obtain ⟨k, w⟩ := c
    simp only [Memory.wfFrom, Bool.and_eq_true, decide_eq_true_eq] at hm
    obtain ⟨⟨⟨hk, hk'⟩, hw⟩, hr⟩ := hm
    by_cases hka : k = a
    · simpa [hka] using Memory.wfFrom_mono (show lo ≤ k + 1 by omega) (ih hr)
    · simp only [hka, List.filter_cons, ne_eq, not_false_eq_true, decide_true, if_true, Memory.wfFrom, Bool.and_eq_true,
        decide_eq_true_eq]
      exact ⟨⟨⟨hk, hk'⟩, hw⟩, ih hr⟩

/-- A write keeps the canonical form. -/
theorem Memory.wf_write {m : Memory} {a : Nat} (v : Byte) (ha : a < 65536) (hm : m.wf = true) :
    (m.write a v).wf = true := by
  unfold Memory.write Memory.wf at *
  split
  · exact Memory.wfFrom_filter hm
  · exact Memory.wfFrom_insert (Nat.zero_le a) ha (by assumption) hm

/-- A core write keeps memory canonical, whatever the address behaves as. -/
theorem Memory.wf_store {m : Memory} {a : Nat} (kind : RegionKind) (v : Byte) (ha : a < 65536) (hm : m.wf = true) :
    (m.store kind a v).wf = true := by
  cases kind
  · exact Memory.wf_write v ha hm
  · exact hm
  · exact hm

/-- A core write leaves every other cell (R71). -/
theorem Memory.read_store_other (m : Memory) (kind : RegionKind) (a b : Nat) (v : Byte) (h : b ≠ a) :
    (m.store kind a v).read b = m.read b := by
  cases kind
  · exact Memory.read_write_other m a b v h
  · rfl
  · rfl

/-- A load keeps memory canonical (R294). -/
theorem wf_placeBytes (bytes : List Byte) (m : Memory) (a : Word) (hm : m.wf = true) : (placeBytes m a bytes).wf = true := by
  induction bytes generalizing m a with
  | nil => exact hm
  | cons b rest ih => exact ih _ _ (Memory.wf_write b a.isLt hm)

/-- Offsets below 65536 from an address name different addresses (R60). -/
theorem word_add_inj (a : Word) {j k : Nat} (hj : j < 65536) (hk : k < 65536)
    (h : a + BitVec.ofNat 16 j = a + BitVec.ofNat 16 k) : j = k := by
  have := congrArg BitVec.toNat h
  simp only [BitVec.toNat_add, BitVec.toNat_ofNat] at this
  have := a.isLt
  omega

theorem word_succ_add (a : Word) (k : Nat) : a + 1 + BitVec.ofNat 16 k = a + BitVec.ofNat 16 (k + 1) := by
  rw [BitVec.ofNat_add, BitVec.add_assoc, BitVec.add_comm 1 (BitVec.ofNat 16 k)]
  rfl

/-- A load leaves every address outside its bytes (R294). -/
theorem placeBytes_read_other (bytes : List Byte) (m : Memory) (a b : Word)
    (h : ∀ k, k < bytes.length → b ≠ a + BitVec.ofNat 16 k) :
    (placeBytes m a bytes).read b.toNat = m.read b.toNat := by
  induction bytes generalizing m a with
  | nil => rfl
  | cons v rest ih =>
    rw [placeBytes, ih, Memory.read_write_other]
    · exact fun e => h 0 (by simp) (by rw [BitVec.eq_of_toNat_eq e]; simp)
    · intro k hk
      rw [word_succ_add]
      exact h (k + 1) (by simpa using hk)

/-- A load of at most the whole memory puts byte k at its address plus k, wrapping at the top (R60, R294). -/
theorem placeBytes_read (bytes : List Byte) (m : Memory) (a : Word) (hl : bytes.length ≤ 65536) (k : Nat) (v : Byte)
    (hk : bytes[k]? = some v) : (placeBytes m a bytes).read (a + BitVec.ofNat 16 k).toNat = v := by
  induction bytes generalizing m a k with
  | nil => simp at hk
  | cons w rest ih =>
    rw [List.length_cons] at hl
    cases k with
    | zero =>
      obtain rfl : w = v := by simpa using hk
      rw [placeBytes, placeBytes_read_other]
      · simp
      · intro j hj e
        rw [word_succ_add] at e
        have := word_add_inj a (by omega) (by omega) e
        omega
    | succ k =>
      rw [placeBytes, ← word_succ_add]
      exact ih _ _ (by omega) _ (by simpa using hk)

/-- Below its lower bound a canonical memory lists nothing. -/
theorem Memory.read_below {m : Memory} {lo a : Nat} (hm : Memory.wfFrom lo m = true) (ha : a < lo) :
    m.read a = Memory.unlisted := by
  induction m generalizing lo with
  | nil => rfl
  | cons c rest ih =>
    obtain ⟨k, w⟩ := c
    simp only [Memory.wfFrom, Bool.and_eq_true, decide_eq_true_eq] at hm
    obtain ⟨⟨⟨hk, hk'⟩, hw⟩, hr⟩ := hm
    rw [Memory.read, if_neg (by omega)]
    exact ih hr (by omega)

end Sys2Proof.Machine
end

