-- ==== Sys2Proof/Laws/Ops.lean ====
section
/-! SUPPORT. One spec lemma per memory operation (20_memory.md): what a read answers after it, what it may change, and that the
canonical form of memory is kept. -/

namespace Sys2Proof.Machine

/-- The routing of IE and IF and the behaviour of an address are those of the parameters. -/
theorem State.reachesIE_congr {s t : State} (h : t.params = s.params) (a : Word) : t.reachesIE a = s.reachesIE a := by
  simp only [State.reachesIE, h]

theorem State.reachesIF_congr {s t : State} (h : t.params = s.params) (a : Word) : t.reachesIF a = s.reachesIF a := by
  simp only [State.reachesIF, h]

theorem State.kind_congr {s t : State} (h : t.params = s.params) (a : Word) : t.kind a = s.kind a := by
  simp only [State.kind, h]

theorem State.external_congr {s t : State} (h : t.params = s.params) (a : Word) : t.external a = s.external a := by
  simp only [State.external, State.reachesIE_congr h, State.reachesIF_congr h, State.kind_congr h]

/-- With no memory map no address is external (R71). -/
theorem State.external_flat {s : State} (h : s.params.memoryMap = []) (a : Word) : s.external a = false := by
  simp [State.external, State.kind, h, kindIn]

/-- A read of a byte depends on memory, IE, IF and the parameters alone, and on the requests before it where the address is
external. -/
theorem State.peek_congr {s t : State} (hm : t.mem = s.mem) (he : t.ieReg = s.ieReg) (hf : t.ifReg = s.ifReg)
    (hp : t.params = s.params) (a : Word) (hb : t.bus = s.bus ∨ s.external a = false) : t.peek a = s.peek a := by
  rw [State.peek, State.peek, State.reachesIE_congr hp, State.reachesIF_congr hp, State.kind_congr hp, hm, he, hf]
  rcases hb with hb | hb
  · rw [hb]
  · simp only [State.external, Bool.and_eq_false_iff, Bool.not_eq_false', decide_eq_false_iff_not] at hb
    cases hie : s.reachesIE a
    · cases hif : s.reachesIF a
      · cases hk : s.kind a
        · rfl
        · rfl
        · simp [hie, hif, hk] at hb
      · rfl
    · rfl

/-- The request of a read changes the request list alone. -/
theorem State.noteRead_eq (s : State) (a : Word) : s.noteRead a = { s with bus := (s.noteRead a).bus } := by
  unfold State.noteRead; split <;> rfl

/-- An address that is not routed to IE or IF makes one read request (R63, R66). -/
theorem State.noteRead_bus (s : State) (a : Word) (he : s.reachesIE a = false) (hf : s.reachesIF a = false) :
    (s.noteRead a).bus = s.bus ++ [.read a] := by
  simp [State.noteRead, he, hf]

theorem State.noteRead_peek (s : State) (a b : Word) (h : s.external b = false) : (s.noteRead a).peek b = s.peek b :=
  State.peek_congr (by simp) (by simp) (by simp) (by simp) b (.inr h)

/-- Where the second address is RAM, ROM, IE or IF, the read before it changes nothing for it. -/
theorem State.peekNext_eq (s : State) (a : Word) (h : s.external (a + 1) = false) : s.peekNext a = s.peek (a + 1) :=
  s.noteRead_peek a (a + 1) h

@[simp] theorem State.noteRead_flag (s : State) (a : Word) (f : Flag) : (s.noteRead a).flag f = s.flag f :=
  State.flag_congr (by simp) f

@[simp] theorem State.noteRead_readReg (s : State) (a : Word) (r : Reg8) : (s.noteRead a).readReg r = s.readReg r := by
  cases r <;> simp [State.readReg]

@[simp] theorem State.noteLoc_readReg (s : State) (l : Loc8) (r : Reg8) : (s.noteLoc l).readReg r = s.readReg r := by
  cases r <;> simp [State.readReg]

@[simp] theorem State.noteLoc_flag (s : State) (l : Loc8) (f : Flag) : (s.noteLoc l).flag f = s.flag f :=
  State.flag_congr (by simp) f

@[simp] theorem State.writeFlags_peek (s : State) (w : FlagWrite) (b : Word) : (s.writeFlags w).peek b = s.peek b :=
  State.peek_congr rfl rfl rfl rfl b (.inl rfl)

@[simp] theorem State.emit_peek (s : State) (e : Event) (b : Word) : (s.emit e).peek b = s.peek b :=
  State.peek_congr rfl rfl rfl rfl b (.inl rfl)

@[simp] theorem State.writeReg_peek (s : State) (r : Reg8) (v : Byte) (b : Word) : (s.writeReg r v).peek b = s.peek b :=
  State.peek_congr (by simp) (by simp) (by simp) (by simp) b (.inl (by simp))

/-- A store of a byte changes memory, the request list, IE and IF alone. -/
theorem State.writeByte_eq (s : State) (a : Word) (v : Byte) (c : WriteCall) :
    s.writeByte a v c =
      { s with
        mem := (s.writeByte a v c).mem, bus := (s.writeByte a v c).bus, ieReg := (s.writeByte a v c).ieReg
        ifReg := (s.writeByte a v c).ifReg } := by
  unfold State.writeByte; split <;> (try split) <;> rfl

/-- A store to an address that is not routed to IE or IF: RAM holds the byte, and one write request is made (R62, R71). -/
theorem State.writeByte_plain (s : State) (a : Word) (v : Byte) (c : WriteCall) (he : s.reachesIE a = false)
    (hf : s.reachesIF a = false) :
    s.writeByte a v c = { s with mem := s.mem.store (s.kind a) a.toNat v, bus := s.bus ++ [.write c a v] } := by
  simp [State.writeByte, he, hf]

/-- A store that is routed to IE (R66). -/
theorem State.writeByte_ie (s : State) (a : Word) (v : Byte) (c : WriteCall) (he : s.reachesIE a = true) :
    s.writeByte a v c = { s with ieReg := v } := by
  simp [State.writeByte, he]

/-- A store that is routed to IF (R66). -/
theorem State.writeByte_if (s : State) (a : Word) (v : Byte) (c : WriteCall) (he : s.reachesIE a = false)
    (hf : s.reachesIF a = true) : s.writeByte a v c = { s with ifReg := v &&& Config.irqMask } := by
  simp [State.writeByte, he, hf]

theorem State.reachesIE_iff (s : State) (a : Word) :
    s.reachesIE a = true ↔ s.params.ieIfMapped = true ∧ a = Config.ieAddress := by
  simp [State.reachesIE]

theorem State.reachesIF_iff (s : State) (a : Word) :
    s.reachesIF a = true ↔ s.params.ieIfMapped = true ∧ a = Config.ifAddress := by
  simp [State.reachesIF]

/-- What an address that is not external answers: IE, IF or the cell of memory. -/
theorem State.peek_inside {s : State} {b : Word} (h : s.external b = false) :
    s.peek b =
      if s.reachesIE b then s.ieReg
      else if s.reachesIF b then Config.ifHighBits ||| (s.ifReg &&& Config.irqMask)
      else s.mem.read b.toNat := by
  unfold State.peek
  split
  · rfl
  · split
    · rfl
    · rename_i he hf
      cases hk : s.kind b
      · rfl
      · rfl
      · simp [State.external, he, hf, hk] at h

/-- A store leaves what every other address reads as, but for the external ones. -/
theorem State.writeByte_peek_other (s : State) (a b : Word) (v : Byte) (c : WriteCall) (h : b ≠ a)
    (hx : s.external b = false) : (s.writeByte a v c).peek b = s.peek b := by
  rw [State.peek_inside hx, State.peek_inside ((State.external_congr (by simp) b).trans hx),
    State.reachesIE_congr (s := s) (by simp), State.reachesIF_congr (s := s) (by simp)]
  cases he : s.reachesIE a with
  | true =>
    rw [State.writeByte_ie s a v c he]
    have hb : s.reachesIE b = false := by
      rw [Bool.eq_false_iff]; intro hb
      exact h (((s.reachesIE_iff b).mp hb).2.trans ((s.reachesIE_iff a).mp he).2.symm)
    simp [hb]
  | false =>
    cases hf : s.reachesIF a with
    | true =>
      rw [State.writeByte_if s a v c he hf]
      have hb : s.reachesIF b = false := by
        rw [Bool.eq_false_iff]; intro hb
        exact h (((s.reachesIF_iff b).mp hb).2.trans ((s.reachesIF_iff a).mp hf).2.symm)
      simp [hb]
    | false =>
      rw [State.writeByte_plain s a v c he hf]
      have hn : b.toNat ≠ a.toNat := fun e => h (BitVec.eq_of_toNat_eq e)
      simp [Memory.read_store_other _ _ _ _ _ hn]

/-- A store to an address that neither IE, IF nor RAM takes leaves memory (R51, R71). -/
theorem State.writeByte_mem_outside (s : State) (a : Word) (v : Byte) (c : WriteCall) (h : s.kind a ≠ .ram) :
    (s.writeByte a v c).mem = s.mem := by
  unfold State.writeByte
  split
  · rfl
  · split
    · rfl
    · cases hk : s.kind a
      · exact absurd hk h
      · simp [Memory.store]
      · simp [Memory.store]

/-- A store keeps memory canonical. -/
theorem State.writeByte_wf (s : State) (a : Word) (v : Byte) (c : WriteCall) (h : s.mem.wf = true) :
    (s.writeByte a v c).mem.wf = true := by
  unfold State.writeByte
  split
  · exact h
  · split
    · exact h
    · exact Memory.wf_store _ v a.isLt h

theorem State.writeShort_wf (s : State) (a v : Word) (h : s.mem.wf = true) : (s.writeShort a v).mem.wf = true := by
  unfold State.writeShort
  split <;> exact State.writeByte_wf _ _ _ _ (State.writeByte_wf _ _ _ _ h)

/-- A 16-bit store leaves what every address but its two reads as (R54), but for the external ones. -/
theorem State.writeShort_peek_other (s : State) (a b v : Word) (h0 : b ≠ a) (h1 : b ≠ a + 1) (hx : s.external b = false) :
    (s.writeShort a v).peek b = s.peek b := by
  have hx' : ∀ x w, (s.writeByte x w .short).external b = false := fun x w =>
    (State.external_congr (by simp) b).trans hx
  unfold State.writeShort
  split
  · rw [State.writeByte_peek_other _ _ _ _ _ h1 (hx' _ _), State.writeByte_peek_other _ _ _ _ _ h0 hx]
  · rw [State.writeByte_peek_other _ _ _ _ _ h0 (hx' _ _), State.writeByte_peek_other _ _ _ _ _ h1 hx]

theorem word_ne_succ (a : Word) : a ≠ a + 1 := by
  intro h; bv_omega

/-- Pop16 changes SP and the request list alone (R58). -/
theorem State.afterPop_eq (s : State) : s.afterPop = { s with sp := s.sp + 2, bus := s.afterPop.bus } := by
  unfold State.afterPop State.noteRead
  dsimp only
  split <;> split <;> rfl

/-- Push16 lowers SP by two (R57). -/
@[simp] theorem State.push16_sp (s : State) (v : Word) : (s.push16 v).sp = s.sp - 2 := by
  simp [State.push16]

@[simp] theorem State.afterPop_sp (s : State) : s.afterPop.sp = s.sp + 2 := by
  simp [State.afterPop]

/-- Push16 leaves what every address but its two reads as (R57), but for the external ones. -/
theorem State.push16_peek_other (s : State) (b v : Word) (h0 : b ≠ s.sp - 2) (h1 : b ≠ s.sp - 1)
    (hx : s.external b = false) : (s.push16 v).peek b = s.peek b := by
  unfold State.push16
  rw [State.writeShort_peek_other]
  · exact State.peek_congr rfl rfl rfl rfl b (.inl rfl)
  · exact h0
  · rw [show s.sp - 2 + 1 = s.sp - 1 by bv_omega]; exact h1
  · exact (State.external_congr rfl b).trans hx

end Sys2Proof.Machine
end

