-- ==== Sys2Proof/Laws/Perform.lean ====
section
/-! SUPPORT. exec by forms: every instruction completes, and what it does is what its form's shared operation does. A proof over all
instructions splits on the 61 forms, not on the 512 rows. -/

namespace Sys2Proof.Machine

/-- The effect of a form, by the shared operations of the families. -/
def perform (f : Form) (s : State) : State :=
  match f with
  | .nop => s
  | .halt => haltCore s
  | .di => disableInterrupts s
  | .ei => enableInterrupts s
  | .daa => decimalAdjust s
  | .cpl => complementAcc s
  | .scf => setCarry s
  | .ccf => complementCarry s
  | .rlca => rotateAcc .rlc s
  | .rrca => rotateAcc .rrc s
  | .rla => rotateAcc .rl s
  | .rra => rotateAcc .rr s
  | .ret => returnTo s
  | .reti => s.returnFromInterrupt
  | .jpHl => jumpTo s.hl s
  | .ldSpHl => ldSpHl s
  | .stAccHighC => storeAcc (highAddress (s.readReg .c)) s
  | .ldAccHighC => loadAcc (highAddress (s.readReg .c)) s
  | .stAccHlInc => storeAccMove 1 s
  | .stAccHlDec => storeAccMove (-1) s
  | .ldAccHlInc => loadAccMove 1 s
  | .ldAccHlDec => loadAccMove (-1) s
  | .stop _ => stopRun s
  | .ldRegReg dst src => ldRegReg dst src s
  | .ldRegImm dst n => ldRegImm dst n s
  | .ldRegMem dst => ldRegMem dst s
  | .ldMemReg src => ldMemReg src s
  | .ldMemImm n => ldMemImm n s
  | .ldAccPtr p => loadAcc (s.readPtr p) s
  | .stAccPtr p => storeAcc (s.readPtr p) s
  | .ldAccAbs nn => loadAcc nn s
  | .stAccAbs nn => storeAcc nn s
  | .stAccHigh n => storeAcc (highAddress n) s
  | .ldAccHigh n => loadAcc (highAddress n) s
  | .ldPairImm rr nn => ldPairImm rr nn s
  | .stSpAbs nn => stSpAbs nn s
  | .push rr => pushPair rr s
  | .pop rr => popPair rr s
  | .aluReg op src => aluLoc op src s
  | .aluImm op n => aluValue op n s
  | .inc8 dst => incLoc dst s
  | .dec8 dst => decLoc dst s
  | .addHl rr => addHlPair rr s
  | .inc16 rr => incPair rr s
  | .dec16 rr => decPair rr s
  | .addSp n => addSpImm n s
  | .ldHlSp n => ldHlSpImm n s
  | .shift op dst => shiftLoc op dst s
  | .bit b src => testBit b src s
  | .res b dst => resetBit b dst s
  | .set b dst => assertBit b dst s
  | .jp nn => jumpTo nn s
  | .jpCond cc nn => whenHolds cc (jumpTo nn) s
  | .jr n => jumpRelative n s
  | .jrCond cc n => whenHolds cc (jumpRelative n) s
  | .call nn => callTo nn s
  | .callCond cc nn => whenHolds cc (callTo nn) s
  | .retCond cc => whenHolds cc returnTo s
  | .rst t => callTo (rstTarget t) s
  | .prefixCb n => performCb n s
  | .unknown op => s.raiseDecodeError op

/-- Every instruction's meaning is its form's effect, and it answers a next state. -/
theorem exec_eq_perform (i : Instr) (s : State) : exec i s = .next (perform i.form s) := by
  cases i <;> rfl

end Sys2Proof.Machine
end

