-- ==== Sys2Proof/Laws/Access.lean ====
section
/-! SUPPORT. What each access to the Memory Unit does, in the terms of Safety.lean: the requests it makes, the bytes it stores and
everything it leaves (20_memory.md R54 to R66). -/

namespace Sys2Proof.Machine

/-- A read request is appended and nothing else changes (R62, R66). -/
theorem State.noteRead_requests (s : State) (a : Word) :
    s.noteRead a = { s with bus := s.bus ++ s.readRequests a } := by
  unfold State.noteRead State.readRequests
  split <;> simp

/-- The requests of a read depend on the parameters alone. -/
theorem State.readRequests_congr {s t : State} (h : t.params = s.params) (a : Word) :
    t.readRequests a = s.readRequests a := by
  unfold State.readRequests; rw [State.reachesIE_congr h, State.reachesIF_congr h]

/-- The requests of a write depend on the parameters alone. -/
theorem State.writeRequests_congr {s t : State} (h : t.params = s.params) (a : Word) (v : Byte) (c : WriteCall) :
    t.writeRequests a v c = s.writeRequests a v c := by
  unfold State.writeRequests; rw [State.reachesIE_congr h, State.reachesIF_congr h]

/-- Reading an 8-bit operand makes its requests and changes nothing else. -/
theorem State.noteLoc_requests (s : State) (l : Loc8) : s.noteLoc l = { s with bus := s.bus ++ s.locRequests l } := by
  cases l with
  | reg r => simp [State.noteLoc, State.locRequests]
  | atHl => simp [State.noteLoc, State.locRequests, State.noteRead_requests]

/-- Pop16 makes two read requests, low byte first, and raises SP by two (R58). -/
theorem State.afterPop_requests (s : State) :
    s.afterPop = { s with sp := s.sp + 2, bus := s.bus ++ s.readRequests s.sp ++ s.readRequests (s.sp + 1) } := by
  simp only [State.afterPop, State.noteRead_requests]
  rw [State.readRequests_congr (s := s) (t := { s with bus := s.bus ++ s.readRequests s.sp }) rfl]

/-- Whether an address keeps a write, and what it then reads as, depends on the parameters alone. -/
theorem State.keepsWrites_congr {s t : State} (h : t.params = s.params) (a : Word) : t.keepsWrites a = s.keepsWrites a := by
  simp only [State.keepsWrites, State.reachesIE_congr h, State.reachesIF_congr h, State.kind_congr h]

theorem State.storedAs_congr {s t : State} (h : t.params = s.params) (a : Word) (v : Byte) :
    t.storedAs a v = s.storedAs a v := by
  simp only [State.storedAs, State.reachesIF_congr h]

/-- An address that keeps writes is not external. -/
theorem State.keepsWrites_inside {s : State} {a : Word} (h : s.keepsWrites a = true) : s.external a = false := by
  unfold State.keepsWrites at h
  unfold State.external
  cases hie : s.reachesIE a
  · cases hif : s.reachesIF a
    · have hk : s.kind a = .ram := by simpa [hie, hif] using h
      simp [hk]
    · rfl
  · rfl

theorem RoutingKept.trans {s t u : State} (hp : t.params = s.params) (h : RoutingKept s t) (h' : RoutingKept t u) :
    RoutingKept s u := by
  refine ⟨fun hm => ?_, fun hm => ?_⟩
  · obtain ⟨a, b⟩ := h.1 hm
    obtain ⟨a', b'⟩ := h'.1 (hp ▸ hm)
    exact ⟨a'.trans a, b'.trans b⟩
  · obtain ⟨a, b⟩ := h.2 hm
    obtain ⟨a', b'⟩ := h'.2 (hp ▸ hm)
    exact ⟨a'.trans a, b'.trans b⟩

/-- A store of a byte keeps the routing (R66). -/
theorem State.writeByte_routing (s : State) (a : Word) (v : Byte) (c : WriteCall) : RoutingKept s (s.writeByte a v c) := by
  refine ⟨fun hm => ?_, fun hm => ?_⟩
  · simp [State.writeByte, State.reachesIE, State.reachesIF, hm]
  · cases he : s.reachesIE a with
    | true => rw [State.writeByte_ie s a v c he]; exact ⟨rfl, rfl⟩
    | false =>
      cases hf : s.reachesIF a with
      | true => rw [State.writeByte_if s a v c he hf]; exact ⟨rfl, rfl⟩
      | false =>
        rw [State.writeByte_plain s a v c he hf]
        have h1 : a ≠ Config.ieAddress := fun e => by simp [State.reachesIE, hm, e] at he
        have h2 : a ≠ Config.ifAddress := fun e => by simp [State.reachesIF, hm, e] at hf
        have h1' : 0xFFFF ≠ a.toNat := fun e => h1 (BitVec.eq_of_toNat_eq (by rw [← e]; rfl))
        have h2' : 0xFF0F ≠ a.toNat := fun e => h2 (BitVec.eq_of_toNat_eq (by rw [← e]; rfl))
        exact ⟨Memory.read_store_other _ _ _ _ _ h1', Memory.read_store_other _ _ _ _ _ h2'⟩

/-- What the stored address reads as where it keeps writes (R66, R71). -/
theorem State.writeByte_peek_same (s : State) (a : Word) (v : Byte) (c : WriteCall) (h : s.keepsWrites a = true) :
    (s.writeByte a v c).peek a = s.storedAs a v := by
  rw [State.peek_inside ((State.external_congr (by simp) a).trans (State.keepsWrites_inside h)),
    State.reachesIE_congr (s := s) (by simp), State.reachesIF_congr (s := s) (by simp)]
  unfold State.storedAs
  cases he : s.reachesIE a with
  | true =>
    have hf : s.reachesIF a = false := by
      rw [Bool.eq_false_iff]
      intro hf
      have := ((s.reachesIE_iff a).mp he).2.symm.trans ((s.reachesIF_iff a).mp hf).2
      exact absurd this (by decide)
    simp [State.writeByte_ie s a v c he, hf]
  | false =>
    cases hf : s.reachesIF a with
    | true =>
      rw [State.writeByte_if s a v c he hf]
      have : v &&& Config.irqMask &&& Config.irqMask = v &&& Config.irqMask := by rw [BitVec.and_assoc]; rfl
      simp [this]
      rfl
    | false =>
      have hk : s.kind a = .ram := by simpa [State.keepsWrites, he, hf] using h
      simp [State.writeByte_plain s a v c he hf, hk, Memory.store]

/-- A store of a byte: what every address reads as after it (R66, R71). -/
theorem State.writeByte_stores (s : State) (a : Word) (v : Byte) (c : WriteCall) : StoresByte s (s.writeByte a v c) a v :=
  ⟨s.writeByte_peek_same a v c, fun b hb hx => s.writeByte_peek_other a b v c hb hx, s.writeByte_routing a v c⟩

/-- A store of a byte appends its request and changes memory, IE and IF alone (R62, R66). -/
theorem State.writeByte_requests (s : State) (a : Word) (v : Byte) (c : WriteCall) :
    s.writeByte a v c =
      { s with
        mem := (s.writeByte a v c).mem, ieReg := (s.writeByte a v c).ieReg, ifReg := (s.writeByte a v c).ifReg
        bus := s.bus ++ s.writeRequests a v c } := by
  rw [State.writeByte_eq]
  congr 1
  cases he : s.reachesIE a with
  | true => simp [State.writeByte_ie s a v c he, State.writeRequests, he]
  | false =>
    cases hf : s.reachesIF a with
    | true => simp [State.writeByte_if s a v c he hf, State.writeRequests, hf]
    | false => simp [State.writeByte_plain s a v c he hf, State.writeRequests, he, hf]

theorem State.writeByte_bus (s : State) (a : Word) (v : Byte) (c : WriteCall) :
    (s.writeByte a v c).bus = s.bus ++ s.writeRequests a v c := by
  rw [State.writeByte_requests]

/-- Two byte stores at different addresses, in either order: what every address reads as after them. -/
theorem State.writeByte_twice (s : State) (a b : Word) (v w : Byte) (c : WriteCall) (hne : a ≠ b) :
    let t := (s.writeByte a v c).writeByte b w c
    (s.keepsWrites a = true → t.peek a = s.storedAs a v) ∧ (s.keepsWrites b = true → t.peek b = s.storedAs b w) ∧
      (∀ x, x ≠ a → x ≠ b → s.external x = false → t.peek x = s.peek x) ∧ RoutingKept s t := by
  have hx : ∀ x, (s.writeByte a v c).external x = s.external x := fun x => State.external_congr (by simp) x
  refine ⟨fun h => ?_, fun h => ?_, fun x h0 h1 h => ?_, ?_⟩
  · rw [State.writeByte_peek_other _ _ _ _ _ hne ((hx a).trans (State.keepsWrites_inside h))]
    exact s.writeByte_peek_same a v c h
  · rw [State.writeByte_peek_same _ _ _ _ ((State.keepsWrites_congr (by simp) b).trans h)]
    exact State.storedAs_congr (by simp) b w
  · rw [State.writeByte_peek_other _ _ _ _ _ h1 ((hx x).trans h), State.writeByte_peek_other _ _ _ _ _ h0 h]
  · exact (s.writeByte_routing a v c).trans (by simp) (State.writeByte_routing _ _ _ _)

/-- A 16-bit store: what every address reads as after it (R54, R66). -/
theorem State.writeShort_stores (s : State) (a v : Word) : StoresWord s (s.writeShort a v) a v := by
  unfold State.writeShort
  split
  · exact State.writeByte_twice s a (a + 1) _ _ .short (word_ne_succ a)
  · obtain ⟨h1, h2, h3, h4⟩ := State.writeByte_twice s (a + 1) a (hiByte v) (loByte v) .short (word_ne_succ a).symm
    exact ⟨h2, h1, fun b ha hb => h3 b hb ha, h4⟩

/-- Where neither of its addresses is RAM a 16-bit store leaves memory (R51, R54). -/
theorem State.writeShort_mem_outside (s : State) (a v : Word) (h0 : s.kind a ≠ .ram) (h1 : s.kind (a + 1) ≠ .ram) :
    (s.writeShort a v).mem = s.mem := by
  unfold State.writeShort
  split <;>
    rw [State.writeByte_mem_outside _ _ _ _ (by rwa [State.kind_congr (s := s) (by simp)]),
      State.writeByte_mem_outside _ _ _ _ (by assumption)]

/-- A 16-bit store appends its requests and changes memory, IE and IF alone (R54, R55, R66). -/
theorem State.writeShort_requests (s : State) (a v : Word) :
    s.writeShort a v =
      { s with
        mem := (s.writeShort a v).mem, ieReg := (s.writeShort a v).ieReg, ifReg := (s.writeShort a v).ifReg
        bus := s.bus ++ s.shortRequests a v } := by
  unfold State.writeShort State.shortRequests
  split <;> rename_i h
  · conv_lhs => rw [State.writeByte_requests (s.writeByte a (loByte v) .short)]
    rw [State.writeRequests_congr (s := s) (t := s.writeByte a (loByte v) .short) (by simp)]
    simp [State.writeByte_bus, h]
  · conv_lhs => rw [State.writeByte_requests (s.writeByte (a + 1) (hiByte v) .short)]
    rw [State.writeRequests_congr (s := s) (t := s.writeByte (a + 1) (hiByte v) .short) (by simp)]
    simp [State.writeByte_bus, h]

/-- Push16 in the same terms (R57). -/
theorem State.push16_stores (s : State) (v : Word) : StoresWord s (s.push16 v) (s.sp - 2) v :=
  State.writeShort_stores { s with sp := s.sp - 2 } (s.sp - 2) v

theorem State.push16_requests (s : State) (v : Word) :
    s.push16 v =
      { s with
        sp := s.sp - 2, mem := (s.push16 v).mem, ieReg := (s.push16 v).ieReg, ifReg := (s.push16 v).ifReg
        bus := s.bus ++ s.shortRequests (s.sp - 2) v } :=
  State.writeShort_requests { s with sp := s.sp - 2 } (s.sp - 2) v

/-- A step that touches neither memory, IE, IF nor the parameters stores nothing. -/
theorem StoresNothing.of_fields {s t : State} (hm : t.mem = s.mem) (he : t.ieReg = s.ieReg) (hf : t.ifReg = s.ifReg)
    (hp : t.params = s.params) : StoresNothing s t :=
  fun b hb => State.peek_congr hm he hf hp b hb

/-- Flags are kept where AF is. -/
theorem FlagsKept.of_af {s t : State} (h : t.af = s.af) : FlagsKept s t := fun f => State.flag_congr h f

/-- A write of an 8-bit register changes its pair alone (R23). -/
theorem State.writeReg_eq (s : State) (r : Reg8) (v : Byte) :
    s.writeReg r v =
      { s with
        af := (s.writeReg r v).af, bc := (s.writeReg r v).bc, de := (s.writeReg r v).de, hl := (s.writeReg r v).hl } := by
  cases r <;> rfl

/-- A write of a pair changes that pair alone (R24). -/
theorem State.writePair_eq (s : State) (rr : Pair) (v : Word) :
    s.writePair rr v =
      { s with
        bc := (s.writePair rr v).bc, de := (s.writePair rr v).de, hl := (s.writePair rr v).hl
        sp := (s.writePair rr v).sp } := by
  cases rr <;> rfl

@[simp] theorem State.writePair_same (s : State) (rr : Pair) (v : Word) : (s.writePair rr v).readPair rr = v := by
  cases rr <;> rfl

theorem State.writePair_other (s : State) (rr q : Pair) (v : Word) (h : q ≠ rr) :
    (s.writePair rr v).readPair q = s.readPair q := by
  cases rr <;> cases q <;> first | exact absurd rfl h | rfl

/-- A write of A and the flags from a result: AF alone changes, and A and each flag are the result's. -/
theorem accResult_eq (r : AluResult) (s : State) : accResult r s = { s with af := (accResult r s).af } := rfl

@[simp] theorem accResult_readReg (r : AluResult) (s : State) : (accResult r s).readReg .a = r.value := by
  simp [accResult]

@[simp] theorem accResult_z (r : AluResult) (s : State) : (accResult r s).flag .z = r.flags.z.getD (s.flag .z) := by
  simp [accResult]

@[simp] theorem accResult_n (r : AluResult) (s : State) : (accResult r s).flag .n = r.flags.n.getD (s.flag .n) := by
  simp [accResult]

@[simp] theorem accResult_h (r : AluResult) (s : State) : (accResult r s).flag .h = r.flags.h.getD (s.flag .h) := by
  simp [accResult]

@[simp] theorem accResult_c (r : AluResult) (s : State) : (accResult r s).flag .c = r.flags.c.getD (s.flag .c) := by
  simp [accResult]

end Sys2Proof.Machine
end

