-- ==== Sys2Proof/Laws/Decode.lean ====
section
/-! SUPPORT. What the opcode maps say of every opcode, once: the instruction of an entry is well-formed, is encoded as its opcode
and operand, and is an UNKNOWN row exactly where the entry is (30_encoding.md R73, R85 to R88). -/

namespace Sys2Proof

/-- A fact about every column of a row, from its sixteen entries. -/
theorem Row.forall_column {α : Type} {P : BitVec 4 → α → Prop} (r : Row α) (h0 : P 0 r.x0) (h1 : P 1 r.x1) (h2 : P 2 r.x2)
    (h3 : P 3 r.x3) (h4 : P 4 r.x4) (h5 : P 5 r.x5) (h6 : P 6 r.x6) (h7 : P 7 r.x7) (h8 : P 8 r.x8) (h9 : P 9 r.x9)
    (hA : P 10 r.xA) (hB : P 11 r.xB) (hC : P 12 r.xC) (hD : P 13 r.xD) (hE : P 14 r.xE) (hF : P 15 r.xF)
    (k : BitVec 4) : P k (r.column k) := by
  obtain ⟨k, hk⟩ := k
  interval_cases k <;> assumption

/-- The entry is what the opcode encodes. -/
def Entry.Encodes (op : Byte) : Entry → Prop
  | .bare i => encode i = [op] ∧ i.wellFormed = true ∧ ∀ o, i.form ≠ .unknown o
  | .unknown i => encode i = [op] ∧ i.wellFormed = true ∧ i.form = .unknown op
  | .imm8 make => ∀ n, encode (make n) = [op, n] ∧ (make n).wellFormed = true ∧ ∀ o, (make n).form ≠ .unknown o
  | .imm16 make =>
    ∀ nn, encode (make nn) = [op, loByte nn, hiByte nn] ∧ (make nn).wellFormed = true ∧ ∀ o, (make nn).form ≠ .unknown o

theorem Entry.Encodes.bare {op : Byte} {i : Instr} (h : encode i = [op]) (w : i.wellFormed = true)
    (u : ∀ o, i.form ≠ .unknown o) : Entry.Encodes op (.bare i) := ⟨h, w, u⟩

theorem Entry.Encodes.unknown {op : Byte} {i : Instr} (h : encode i = [op]) (w : i.wellFormed = true)
    (u : i.form = .unknown op) : Entry.Encodes op (.unknown i) := ⟨h, w, u⟩

theorem Entry.Encodes.imm8 {op : Byte} {make : Byte → Instr} (h : ∀ n, encode (make n) = [op, n])
    (w : ∀ n, (make n).wellFormed = true) (u : ∀ n o, (make n).form ≠ .unknown o) : Entry.Encodes op (.imm8 make) :=
  fun n => ⟨h n, w n, u n⟩

theorem Entry.Encodes.imm16 {op : Byte} {make : Word → Instr} (h : ∀ nn, encode (make nn) = [op, loByte nn, hiByte nn])
    (w : ∀ nn, (make nn).wellFormed = true) (u : ∀ nn o, (make nn).form ≠ .unknown o) : Entry.Encodes op (.imm16 make) :=
  fun nn => ⟨h nn, w nn, u nn⟩

/-- A CB sub-table entry is encoded as 0xCB and its index (R86, R87). -/
theorem encode_cbEntry : ∀ n : Byte, encode (cbEntry n) = [0xCB, n] := by decide

theorem wellFormed_cbEntry : ∀ n : Byte, (cbEntry n).wellFormed = true := by decide

/-- The fields of a CB index pick the form (R87, R228). -/
theorem form_cbEntry : ∀ n : Byte, (cbEntry n).form =
    match (n.extractLsb' 6 2).toNat with
    | 0 => .shift (ShiftOp.ofCode (n.extractLsb' 3 3)) (Loc8.ofCode (n.extractLsb' 0 3))
    | 1 => .bit (n.extractLsb' 3 3) (Loc8.ofCode (n.extractLsb' 0 3))
    | 2 => .res (n.extractLsb' 3 3) (Loc8.ofCode (n.extractLsb' 0 3))
    | _ => .set (n.extractLsb' 3 3) (Loc8.ofCode (n.extractLsb' 0 3)) := by decide

theorem cbEntry_not_unknown (n o : Byte) : (cbEntry n).form ≠ .unknown o := by
  rw [form_cbEntry]; split <;> exact Form.noConfusion

/-- Every opcode's entry is what it encodes. -/
theorem primary_encodes (op : Byte) : Entry.Encodes op (primary op) := by
  have key : ∀ hi lo : BitVec 4, Entry.Encodes (hi ++ lo) ((primaryTable.column hi).column lo) := by
    intro hi
    refine Row.forall_column (P := fun hi r => ∀ lo, Entry.Encodes (hi ++ lo) (r.column lo)) primaryTable
      ?_ ?_ ?_ ?_ ?_ ?_ ?_ ?_ ?_ ?_ ?_ ?_ ?_ ?_ ?_ ?_ hi <;>
    refine Row.forall_column _ ?_ ?_ ?_ ?_ ?_ ?_ ?_ ?_ ?_ ?_ ?_ ?_ ?_ ?_ ?_ ?_
    all_goals first
      | exact .bare rfl rfl (fun _ => Form.noConfusion)
      | exact .unknown rfl rfl rfl
      | exact .imm8 encode_cbEntry wellFormed_cbEntry cbEntry_not_unknown
      | refine .imm8 (fun _ => ?_) (fun _ => ?_) (fun _ _ => Form.noConfusion) <;> rfl
      | refine .imm16 (fun _ => ?_) (fun _ => ?_) (fun _ _ => Form.noConfusion) <;> rfl
  have h := key (op.extractLsb' 4 4) (op.extractLsb' 0 4)
  rwa [(by decide : ∀ b : Byte, b.extractLsb' 4 4 ++ b.extractLsb' 0 4 = b) op] at h

end Sys2Proof
end

