-- ==== Sys2Proof/Laws/Results.lean ====
section
/-! SUPPORT. What the arithmetic operations leave: one spec lemma for an operation into A, one for a read-modify-write of an 8-bit
operand, and the low nibble as a remainder. -/

namespace Sys2Proof.Machine

/-- An operation into A is done: A and each flag are the result's, nothing is stored, and nothing but AF and the requests
changes. -/
structure AluDone (s t : State) (r : AluResult) (reads : List Request) : Prop where
  a : t.readReg .a = r.value
  z : t.flag .z = r.flags.z.getD (s.flag .z)
  n : t.flag .n = r.flags.n.getD (s.flag .n)
  h : t.flag .h = r.flags.h.getD (s.flag .h)
  c : t.flag .c = r.flags.c.getD (s.flag .c)
  st : StoresNothing s t
  fr : t = { s with af := t.af, bus := s.bus ++ reads }

/-- An operation on an operand value (R140 to R155). -/
theorem aluValue_done (op : AluOp) (v : Byte) (s : State) :
    AluDone s (aluValue op v s) (aluPrimitive op (s.readReg .a) v (s.flag .c)) [] := by
  refine ⟨?_, ?_, ?_, ?_, ?_, StoresNothing.of_fields rfl rfl rfl rfl, ?_⟩
  case refine_6 => simp; rfl
  all_goals simp [aluValue]

/-- An operation on a register or (HL) operand (R140 to R154). -/
theorem aluLoc_done (op : AluOp) (src : Loc8) (s : State) :
    AluDone s (aluLoc op src s) (aluPrimitive op (s.readReg .a) (s.readLoc src) (s.flag .c)) (s.locRequests src) := by
  refine ⟨?_, ?_, ?_, ?_, ?_, ?_, ?_⟩
  case refine_6 => simp only [aluLoc, State.noteLoc_requests]; exact StoresNothing.of_fields rfl rfl rfl rfl
  case refine_7 => simp only [aluLoc, State.noteLoc_requests]; rfl
  all_goals simp [aluValue, aluLoc]

/-- A result written to A with its flags (R158 to R161, R173 to R176). -/
theorem accResult_done (r : AluResult) (s : State) : AluDone s (accResult r s) r [] := by
  refine ⟨?_, ?_, ?_, ?_, ?_, StoresNothing.of_fields rfl rfl rfl rfl, ?_⟩
  case refine_6 => simp; rfl
  all_goals simp

/-- The low nibble is the remainder by 16. -/
theorem lowNibble_eq (v : Byte) : lowNibble v = v.toNat % 16 := by
  simp only [lowNibble, BitVec.toNat_and]
  exact Nat.and_two_pow_sub_one_eq_mod v.toNat 4

theorem bitNat_eq (b : Bool) : bitNat b = b.toNat := by cases b <;> rfl

/-- A read-modify-write is done: the operand holds the result, the flags are the result's, no other register changes, and
memory and the requests change for the (HL) form alone. -/
structure Modified (s t : State) (dst : Loc8) (r : AluResult) : Prop where
  z : t.flag .z = r.flags.z.getD (s.flag .z)
  n : t.flag .n = r.flags.n.getD (s.flag .n)
  h : t.flag .h = r.flags.h.getD (s.flag .h)
  c : t.flag .c = r.flags.c.getD (s.flag .c)
  o : ∀ q, dst ≠ .reg q → t.readReg q = s.readReg q
  reg : ∀ q, dst = .reg q → t.readReg q = r.value ∧ StoresNothing s t ∧
          t = { s with af := t.af, bc := t.bc, de := t.de, hl := t.hl }
  mem : dst = .atHl → StoresByte s t s.hl r.value ∧
          t = { s with
            af := t.af, mem := t.mem, ieReg := t.ieReg, ifReg := t.ifReg,
            bus := s.bus ++ s.readRequests s.hl ++ s.writeRequests s.hl r.value }

/-- Storing is a matter of memory, IE, IF and the parameters, whatever requests were made before. -/
theorem StoresByte.congr {s t s' t' : State} {a : Word} {v : Byte} (h : StoresByte s t a v)
   (h1 : s'.mem = s.mem) (h2 : s'.ieReg = s.ieReg) (h3 : s'.ifReg = s.ifReg) (h4 : s'.params = s.params)
   (g1 : t'.mem = t.mem) (g2 : t'.ieReg = t.ieReg) (g3 : t'.ifReg = t.ifReg) (g4 : t'.params = t.params)
   (hp : t.params = s.params) : StoresByte s' t' a v := by
  have hs : ∀ b, s'.external b = false → s.external b = false := fun b hb => (State.external_congr h4 b).symm.trans hb
  have ht : ∀ b, s.external b = false → t.external b = false := fun b hb => (State.external_congr hp b).trans hb
  obtain ⟨x, y, z⟩ := h
  refine ⟨fun hx => ?_, fun b hb hx => ?_, ?_, ?_⟩
  · have hk := (State.keepsWrites_congr h4 a).symm.trans hx
    rw [State.peek_congr g1 g2 g3 g4 a (.inr (ht a (State.keepsWrites_inside hk))), State.storedAs_congr h4 a v, x hk]
  · rw [State.peek_congr g1 g2 g3 g4 b (.inr (ht b (hs b hx))), State.peek_congr h1 h2 h3 h4 b (.inr (hs b hx)),
      y b hb (hs b hx)]
  · rw [h4, g2, g3, h2, h3]; exact z.1
  · rw [h4, g1, h1]; exact z.2

theorem StoresWord.congr {s t s' t' : State} {a v : Word} (h : StoresWord s t a v)
    (h1 : s'.mem = s.mem) (h2 : s'.ieReg = s.ieReg) (h3 : s'.ifReg = s.ifReg) (h4 : s'.params = s.params)
    (g1 : t'.mem = t.mem) (g2 : t'.ieReg = t.ieReg) (g3 : t'.ifReg = t.ifReg) (g4 : t'.params = t.params)
    (hp : t.params = s.params) : StoresWord s' t' a v := by
  have hs : ∀ b, s'.external b = false → s.external b = false := fun b hb => (State.external_congr h4 b).symm.trans hb
  have ht : ∀ b, s.external b = false → t.external b = false := fun b hb => (State.external_congr hp b).trans hb
  have hk : ∀ b, s'.keepsWrites b = true → s.keepsWrites b = true := fun b hb =>
    (State.keepsWrites_congr h4 b).symm.trans hb
  obtain ⟨x, y, z, w⟩ := h
  refine ⟨fun hx => ?_, fun hx => ?_, fun b h0 h1' hx => ?_, ?_, ?_⟩
  · rw [State.peek_congr g1 g2 g3 g4 a (.inr (ht a (State.keepsWrites_inside (hk a hx)))), State.storedAs_congr h4 a,
      x (hk a hx)]
  · rw [State.peek_congr g1 g2 g3 g4 _ (.inr (ht _ (State.keepsWrites_inside (hk _ hx)))), State.storedAs_congr h4,
      y (hk _ hx)]
  · rw [State.peek_congr g1 g2 g3 g4 b (.inr (ht b (hs b hx))), State.peek_congr h1 h2 h3 h4 b (.inr (hs b hx)),
      z b h0 h1' (hs b hx)]
  · rw [h4, g2, g3, h2, h3]; exact w.1
  · rw [h4, g1, h1]; exact w.2

/-- A read-modify-write of an 8-bit operand (R156, R157, R177). -/
theorem modifyLoc_done (f : Byte → AluResult) (dst : Loc8) (s : State) :
    Modified s (modifyLoc f dst s) dst (f (s.readLoc dst)) := by
  cases dst with
  | reg r =>
    refine ⟨?_, ?_, ?_, ?_, ?_, ?_, ?_⟩
    case refine_5 =>
      intro q hq; simp only [modifyLoc, State.noteLoc, State.writeLoc, State.writeFlags_readReg]
      exact State.writeReg_readReg_other _ _ _ _ (fun e => hq (by rw [e]))
    case refine_6 =>
      rintro q ⟨⟩
      refine ⟨by simp [modifyLoc, State.writeLoc], ?_, ?_⟩
      · intro b _; simp [modifyLoc, State.writeLoc, State.noteLoc]
      · simp only [modifyLoc, State.noteLoc, State.writeLoc]; cases r <;> rfl
    case refine_7 => rintro ⟨⟩
    all_goals simp [modifyLoc, State.writeLoc, State.noteLoc]
  | atHl =>
    have e : (s.noteLoc .atHl) = { s with bus := s.bus ++ s.readRequests s.hl } := by
      simp [State.noteLoc, State.noteRead_requests]
    have haf : ∀ (t : State) a v, (t.writeByte a v).af = t.af := by simp
    refine ⟨?_, ?_, ?_, ?_, ?_, ?_, ?_⟩
    case refine_5 => 
      intro q hq; simp only [modifyLoc, State.noteLoc, State.writeLoc, State.writeFlags_readReg]
      cases q <;> simp [State.readReg]
    case refine_6 => rintro q ⟨⟩
    case refine_7 =>
      intro _
      generalize hr : f (s.readLoc .atHl) = r
      simp only [modifyLoc, e, hr, State.writeLoc]
      generalize hu : ({ s with bus := s.bus ++ s.readRequests s.hl } : State) = u
      have hh : u.hl = s.hl := by rw [← hu]
      constructor
      · apply StoresByte.congr (State.writeByte_stores u s.hl r.value .byte) <;> subst hu <;> first | rfl | simp
      · rw [State.writeByte_requests, State.writeRequests_congr (s := s) (t := u) (by rw [← hu]), ← hu]
        rfl
    all_goals simp [modifyLoc, e, State.writeLoc, State.flag_congr (haf _ _ _)]
    all_goals exact congrArg _ (State.flag_congr rfl _)

end Sys2Proof.Machine
end

