-- ==== Sys2Proof/Laws/Frame.lean ====
section
/-! SUPPORT. What no operation touches: the control state that each form leaves, and that every form and every host call
keeps F[3:0] and IF[7:5] zero, memory canonical and the breakpoints a set. -/

namespace Sys2Proof.Machine

/-- The control state that an operation of a form leaves (10_state.md R33 to R41; 60_exceptions.md R255, R277). -/
structure Kept (f : Form) (s t : State) : Prop where
  ime : f ≠ .ei → f ≠ .di → f ≠ .reti → t.ime = s.ime
  ei : f ≠ .ei → f ≠ .di → t.eiShadow = s.eiShadow
  halt : f ≠ .halt → t.haltWait = s.haltWait ∧ t.haltRepeat = s.haltRepeat
  bp : t.breakpoints = s.breakpoints
  hc : t.hostCalls = s.hostCalls
  irqs : t.irqs = s.irqs
  params : t.params = s.params
  rest : (∀ op, f ≠ .unknown op) →
          t.sched = s.sched ∧ t.fatal = s.fatal ∧ t.events = s.events ∧ t.paused = s.paused ∧
          t.debugMode = s.debugMode ∧ t.stepArmed = s.stepArmed ∧ t.stickyStep = s.stickyStep ∧
          t.advance = s.advance ∧ ((∀ n, f ≠ .stop n) → t.running = s.running)

theorem Kept.refl (f : Form) (s : State) : Kept f s s := by
  constructor <;> simp

/-- Every form leaves the control state that is not its own. -/
theorem perform_kept (f : Form) (s : State) : Kept f s (perform f s) := by
  cases f
  case jpCond | jrCond | callCond | retCond =>
    simp only [perform, whenHolds]
    split
    · constructor <;> simp [jumpTo, jumpRelative, callTo, returnTo]
    · exact Kept.refl _ _
  case prefixCb n =>
    simp only [perform, performCb]
    split
    all_goals constructor <;> simp [shiftLoc, modifyLoc, testBit, resetBit, assertBit]
  case halt =>
    simp only [perform, haltCore]
    split <;> constructor <;> simp
  case unknown =>
    simp only [perform, State.raiseDecodeError]
    constructor <;> simp [State.clearSession, State.emit]
  all_goals
    constructor <;> simp [perform, disableInterrupts, enableInterrupts, decimalAdjust, accResult, complementAcc,
        setCarry, complementCarry, rotateAcc, returnTo, jumpTo, State.returnFromInterrupt, ldSpHl, storeAcc, loadAcc,
        storeAccMove, loadAccMove, stopRun, ldRegReg, ldRegImm, ldRegMem, ldMemReg, ldMemImm, ldPairImm, stSpAbs,
        pushPair, popPair, aluLoc, aluValue, incLoc, decLoc, modifyLoc, addHlPair, incPair, decPair, addSpImm,
        ldHlSpImm, shiftLoc, testBit, resetBit, assertBit, jumpRelative, callTo]

/-- F[3:0] is stored 0 (R27). -/
def LowClear (s : State) : Prop := s.af &&& 0x000F#16 = 0

theorem and_low_mask (v : Word) : (v &&& 0xFFF0#16) &&& 0x000F#16 = 0 := by
  rw [BitVec.and_assoc]
  exact BitVec.and_zero

theorem lowClear_setAF (s v) : LowClear (State.setAF s v) := and_low_mask v

theorem lowClear_writeFlags (s w) : LowClear (State.writeFlags s w) := State.writeFlags_low s w

theorem lowClear_of_af {s t : State} (h : LowClear s) (e : t.af = s.af) : LowClear t := by
  unfold LowClear
  rw [e]
  exact h

theorem lowClear_writeReg {s : State} (h : LowClear s) (r v) : LowClear (s.writeReg r v) := by
  cases r <;> first | exact lowClear_setAF _ _ | exact h

theorem lowClear_writeLoc {s : State} (h : LowClear s) (r v) : LowClear (s.writeLoc r v) := by
  cases r with
  | reg r => exact lowClear_writeReg h r v
  | atHl => exact lowClear_of_af h (by simp [State.writeLoc])

/-- Every form keeps F[3:0] zero. -/
theorem lowClear_perform (f : Form) (s : State) (h : LowClear s) : LowClear (perform f s) := by
  cases f
  case jpCond | jrCond | callCond | retCond =>
    simp only [perform, whenHolds]; split
    · exact lowClear_of_af h (by simp [jumpTo, jumpRelative, callTo, returnTo])
    · exact h
  case ldRegReg => exact lowClear_writeReg h _ _
  case ldRegImm => exact lowClear_writeReg h _ _
  case ldRegMem => exact lowClear_writeReg (lowClear_of_af h (by simp)) _ _
  case ldAccPtr | ldAccAbs | ldAccHigh | ldAccHighC => exact lowClear_writeReg (lowClear_of_af h (by simp)) .a _
  case ldAccHlInc | ldAccHlDec => exact lowClear_of_af (lowClear_writeReg (lowClear_of_af (t := s.noteRead s.hl) h
      (by simp)) .a (s.peek s.hl)) rfl
  case pop rr =>
    cases rr
    case af => exact lowClear_setAF _ _
    all_goals exact lowClear_of_af h (by simp [perform, popPair, State.writeStackPair])
  case res | set => exact lowClear_writeLoc (lowClear_of_af h (by simp)) _ _
  case prefixCb =>
    simp only [perform, performCb]; split
    · exact lowClear_writeFlags _ _
    · exact lowClear_writeFlags _ _
    all_goals exact lowClear_writeLoc (lowClear_of_af h (by simp)) _ _
  case aluReg | aluImm | inc8 | dec8 | daa | cpl | scf | ccf | addHl | addSp | ldHlSp | rlca | rrca | rla | rra |
      shift | bit =>
    exact lowClear_writeFlags _ _
  case halt => simp only [perform, haltCore]; split <;> exact h
  all_goals exact lowClear_of_af h (by simp [perform, disableInterrupts, enableInterrupts, returnTo, jumpTo,
      State.returnFromInterrupt, ldSpHl, storeAcc, storeAccMove, stopRun, ldMemReg, ldMemImm, ldPairImm, stSpAbs,
      pushPair, incPair, decPair, jumpRelative, callTo, State.raiseDecodeError, State.emit, State.clearSession])

/-- Every host call keeps F[3:0] zero. -/
theorem lowClear_applyCall (s : State) (h : LowClear s) (c : HostCall) : LowClear (s.applyCall c) := by
  cases c
  case reset => simp only [State.applyCall, State.resetSequence]; exact lowClear_of_af (lowClear_writeFlags _ _) rfl
  case start => simp only [State.applyCall, State.start]; split <;> exact h
  case singleStep => simp only [State.applyCall, State.singleStep]; split <;> exact h
  case setStickyStep => simp only [State.applyCall, State.setStickyStep]; split <;> (try split) <;> exact h
  case load => simp only [State.applyCall, State.load]; split <;> exact h
  all_goals simp only [State.applyCall]
  all_goals first | exact h | (split <;> exact h)

/-- IF[7:5] is stored 0 (R34). -/
def HighClear (s : State) : Prop := s.ifReg &&& 0xE0#8 = 0

/-- Memory stays canonical and IF[7:5] stays zero. -/
structure Stable (s t : State) : Prop where
  wf : s.mem.wf = true → t.mem.wf = true
  hi : HighClear s → HighClear t

theorem Stable.of {s t : State} (h : t.mem = s.mem) (h' : t.ifReg = s.ifReg) : Stable s t := ⟨by rw [h]; exact id,
    by unfold HighClear; rw [h']; exact id⟩

theorem Stable.trans {s t u} (a : Stable s t) (b : Stable t u) : Stable s u := ⟨b.wf ∘ a.wf, b.hi ∘ a.hi⟩

/-- A store keeps memory canonical and IF[7:5] zero. -/
theorem stable_writeByte (s : State) (a v c) : Stable s (s.writeByte a v c) := by
  refine ⟨State.writeByte_wf _ _ _ _, ?_⟩
  intro h; unfold State.writeByte; split
  · exact h
  · split
    · show v &&& Config.irqMask &&& 0xE0 = 0; rw [BitVec.and_assoc]; exact BitVec.and_zero
    · exact h

theorem stable_writeShort (s : State) (a v) : Stable s (s.writeShort a v) := by
  unfold State.writeShort; split <;> exact (stable_writeByte _ _ _ _).trans (stable_writeByte _ _ _ _)

theorem stable_push16 (s : State) (v) : Stable s (s.push16 v) := (Stable.of (s := s) (t := { s with sp :=
    s.sp - 2 }) rfl rfl).trans (stable_writeShort _ _ _)

theorem stable_writeLoc (s : State) (l v) : Stable s (s.writeLoc l v) := by
  cases l with
  | reg r => exact Stable.of (by simp [State.writeLoc]) (by simp [State.writeLoc])
  | atHl => exact stable_writeByte _ _ _ _

theorem stable_storeAccMove (s : State) (w) : Stable s (storeAccMove w s) := by
  have h := stable_writeByte s s.hl (s.readReg .a) .byte
  have e1 : (storeAccMove w s).mem = (s.writeByte s.hl (s.readReg .a)).mem := rfl
  have e2 : (storeAccMove w s).ifReg = (s.writeByte s.hl (s.readReg .a)).ifReg := rfl
  exact h.trans (Stable.of e1 e2)

theorem stable_callTo (t : Word) (s : State) : Stable s (callTo t s) :=
  (stable_push16 s s.pc).trans (Stable.of rfl rfl)

theorem stable_noteLoc (s : State) (l : Loc8) : Stable s (s.noteLoc l) := Stable.of (by simp) (by simp)

theorem stable_writeFlags (s : State) (w : FlagWrite) : Stable s (s.writeFlags w) := Stable.of rfl rfl

/-- Every form keeps memory canonical and IF[7:5] zero. -/
theorem stable_perform (f : Form) (s : State) : Stable s (perform f s) := by
  have refl : Stable s s := Stable.of rfl rfl
  cases f
  case jpCond | jrCond | retCond =>
    simp only [perform, whenHolds]; split
    · exact Stable.of (by simp [jumpTo, jumpRelative, returnTo]) (by simp [jumpTo, jumpRelative,
        returnTo])
    · exact refl
  case callCond =>
    simp only [perform, whenHolds]; split
    · exact stable_callTo _ _
    · exact refl
  case call | rst => exact stable_callTo _ _
  case push => exact stable_push16 _ _
  case stSpAbs => exact stable_writeShort _ _ _
  case stAccPtr | stAccAbs | stAccHigh | stAccHighC | ldMemReg | ldMemImm => exact stable_writeByte _ _ _ _
  case stAccHlInc | stAccHlDec => exact stable_storeAccMove _ _
  case res | set => exact (stable_noteLoc _ _).trans (stable_writeLoc _ _ _)
  case inc8 | dec8 | shift =>
    exact (stable_noteLoc _ _).trans ((stable_writeLoc _ _ _).trans (stable_writeFlags _ _))
  case prefixCb =>
    simp only [perform, performCb]; split
    · exact (stable_noteLoc _ _).trans ((stable_writeLoc _ _ _).trans (stable_writeFlags _ _))
    · exact Stable.of (by simp [testBit]) (by simp [testBit])
    all_goals exact (stable_noteLoc _ _).trans (stable_writeLoc _ _ _)
  case halt => simp only [perform, haltCore]; split <;> exact Stable.of rfl rfl
  all_goals
    refine Stable.of ?_ ?_ <;>
    simp [perform, disableInterrupts, enableInterrupts, decimalAdjust, accResult, complementAcc, setCarry,
      complementCarry, rotateAcc, returnTo, jumpTo, State.returnFromInterrupt, ldSpHl, loadAcc, loadAccMove, stopRun,
      ldRegReg, ldRegImm, ldRegMem, ldPairImm, popPair, aluLoc, aluValue, addHlPair, incPair, decPair, addSpImm,
      ldHlSpImm, testBit, jumpRelative, State.raiseDecodeError, State.emit, State.clearSession]

/-- Every host call keeps memory canonical and IF[7:5] zero (R291, R294). -/
theorem stable_applyCall (s : State) (c : HostCall) : Stable s (s.applyCall c) := by
  have refl : Stable s s := Stable.of rfl rfl
  cases c
  case reset => exact ⟨id, fun _ => (by decide : (0x00#8 &&& 0xE0#8) = 0)⟩
  case load a bytes =>
    simp only [State.applyCall, State.load]; split
    · exact refl
    · exact ⟨wf_placeBytes bytes _ a, id⟩
  case start => simp only [State.applyCall, State.start]; split <;> exact Stable.of rfl rfl
  case singleStep => simp only [State.applyCall, State.singleStep]; split <;> exact Stable.of rfl rfl
  case setStickyStep =>
    simp only [State.applyCall, State.setStickyStep]; split <;> (try split) <;> exact Stable.of rfl rfl
  all_goals simp only [State.applyCall]
  all_goals first | exact Stable.of rfl rfl | (split <;> exact Stable.of rfl rfl)

/-- The breakpoints stay a strictly rising list (R40, R274). -/
theorem rising_mono (bs : List Word) (lo lo' : Nat) (h : lo' ≤ lo)
    (r : risingFrom lo bs = true) : risingFrom lo' bs = true := by
  cases bs with
  | nil => rfl
  | cons b rest => simp only [risingFrom, Bool.and_eq_true, decide_eq_true_eq] at *; exact ⟨by omega, r.2⟩

theorem rising_add (bs : List Word) (a : Word) (lo : Nat) (hl : lo ≤ a.toNat)
    (r : risingFrom lo bs = true) : risingFrom lo (addBreakpoint bs a) = true := by
  induction bs generalizing lo with
  | nil => simp [addBreakpoint, risingFrom, hl]
  | cons b rest ih =>
    have r0 := r
    simp only [risingFrom, Bool.and_eq_true, decide_eq_true_eq] at r
    simp only [addBreakpoint]; split
    · simp only [risingFrom, Bool.and_eq_true, decide_eq_true_eq]; exact ⟨hl, by omega, r.2⟩
    · split
      · exact r0
      · rename_i h1 h2
        have : a.toNat ≠ b.toNat := fun e => h2 (BitVec.eq_of_toNat_eq e)
        simp only [risingFrom, Bool.and_eq_true, decide_eq_true_eq]; exact ⟨r.1, ih _ (by omega) r.2⟩

theorem rising_remove (bs : List Word) (a : Word) (lo : Nat) (r : risingFrom lo bs = true) :
    risingFrom lo (removeBreakpoint bs a) = true := by
  induction bs generalizing lo with
  | nil => rfl
  | cons b rest ih =>
    simp only [risingFrom, Bool.and_eq_true, decide_eq_true_eq] at r
    by_cases h : b = a
    · subst h
      have := rising_mono _ _ lo (by omega) (ih _ r.2)
      simpa [removeBreakpoint] using this
    · have := ih _ r.2
      have e : removeBreakpoint (b :: rest) a = b :: removeBreakpoint rest a := by simp [removeBreakpoint, h]
      rw [e]; simp [risingFrom, r.1, this]

end Sys2Proof.Machine
end

