-- ==== Sys2Proof/Laws/PerInstr.lean ====
section
/-! SUPPORT. The per-instruction family Length: an instruction's encoding has one byte more than its opcode's operand count
(30_encoding.md R73 to R76), so its length is known from the first byte. -/

namespace Sys2Proof.Laws.Length

/-- The encoding starts with the form's opcode and is one byte longer than that opcode's operand count. -/
def Statement (i : Instr) : Prop :=
  (encode i).head? = some i.form.opcode ∧ (encode i).length = (primary i.form.opcode).operandCount + 1

/-- From the opcode byte, the operand bytes and the opcode's descriptor. -/
theorem of_opcode {i : Instr} (op : Byte) {rest : List Byte} (ho : i.form.opcode = op) (hr : i.form.operandBytes = rest)
    (hp : rest.length = (primary op).operandCount) : Statement i := by
  subst ho hr
  exact ⟨rfl, by rw [encode, List.length_cons, hp]⟩

theorem ldBcD16 (nn : Word) : Statement (.ldBcD16 nn) := of_opcode 0x01 rfl rfl rfl
theorem ldBD8 (n : Byte) : Statement (.ldBD8 n) := of_opcode 0x06 rfl rfl rfl
theorem ldAtA16Sp (nn : Word) : Statement (.ldAtA16Sp nn) := of_opcode 0x08 rfl rfl rfl
theorem ldCD8 (n : Byte) : Statement (.ldCD8 n) := of_opcode 0x0E rfl rfl rfl
theorem stop (n : Byte) : Statement (.stop n) := of_opcode 0x10 rfl rfl rfl
theorem ldDeD16 (nn : Word) : Statement (.ldDeD16 nn) := of_opcode 0x11 rfl rfl rfl
theorem ldDD8 (n : Byte) : Statement (.ldDD8 n) := of_opcode 0x16 rfl rfl rfl
theorem jrE8 (n : Byte) : Statement (.jrE8 n) := of_opcode 0x18 rfl rfl rfl
theorem ldED8 (n : Byte) : Statement (.ldED8 n) := of_opcode 0x1E rfl rfl rfl
theorem jrNzE8 (n : Byte) : Statement (.jrNzE8 n) := of_opcode 0x20 rfl rfl rfl
theorem ldHlD16 (nn : Word) : Statement (.ldHlD16 nn) := of_opcode 0x21 rfl rfl rfl
theorem ldHD8 (n : Byte) : Statement (.ldHD8 n) := of_opcode 0x26 rfl rfl rfl
theorem jrZE8 (n : Byte) : Statement (.jrZE8 n) := of_opcode 0x28 rfl rfl rfl
theorem ldLD8 (n : Byte) : Statement (.ldLD8 n) := of_opcode 0x2E rfl rfl rfl
theorem jrNcE8 (n : Byte) : Statement (.jrNcE8 n) := of_opcode 0x30 rfl rfl rfl
theorem ldSpD16 (nn : Word) : Statement (.ldSpD16 nn) := of_opcode 0x31 rfl rfl rfl
theorem ldAtHlD8 (n : Byte) : Statement (.ldAtHlD8 n) := of_opcode 0x36 rfl rfl rfl
theorem jrCE8 (n : Byte) : Statement (.jrCE8 n) := of_opcode 0x38 rfl rfl rfl
theorem ldAD8 (n : Byte) : Statement (.ldAD8 n) := of_opcode 0x3E rfl rfl rfl
theorem jpNzA16 (nn : Word) : Statement (.jpNzA16 nn) := of_opcode 0xC2 rfl rfl rfl
theorem jpA16 (nn : Word) : Statement (.jpA16 nn) := of_opcode 0xC3 rfl rfl rfl
theorem callNzA16 (nn : Word) : Statement (.callNzA16 nn) := of_opcode 0xC4 rfl rfl rfl
theorem addAD8 (n : Byte) : Statement (.addAD8 n) := of_opcode 0xC6 rfl rfl rfl
theorem jpZA16 (nn : Word) : Statement (.jpZA16 nn) := of_opcode 0xCA rfl rfl rfl
theorem prefixCb (n : Byte) : Statement (.prefixCb n) := of_opcode 0xCB rfl rfl rfl
theorem callZA16 (nn : Word) : Statement (.callZA16 nn) := of_opcode 0xCC rfl rfl rfl
theorem callA16 (nn : Word) : Statement (.callA16 nn) := of_opcode 0xCD rfl rfl rfl
theorem adcAD8 (n : Byte) : Statement (.adcAD8 n) := of_opcode 0xCE rfl rfl rfl
theorem jpNcA16 (nn : Word) : Statement (.jpNcA16 nn) := of_opcode 0xD2 rfl rfl rfl
theorem callNcA16 (nn : Word) : Statement (.callNcA16 nn) := of_opcode 0xD4 rfl rfl rfl
theorem subD8 (n : Byte) : Statement (.subD8 n) := of_opcode 0xD6 rfl rfl rfl
theorem jpCA16 (nn : Word) : Statement (.jpCA16 nn) := of_opcode 0xDA rfl rfl rfl
theorem callCA16 (nn : Word) : Statement (.callCA16 nn) := of_opcode 0xDC rfl rfl rfl
theorem sbcAD8 (n : Byte) : Statement (.sbcAD8 n) := of_opcode 0xDE rfl rfl rfl
theorem ldhAtA8A (n : Byte) : Statement (.ldhAtA8A n) := of_opcode 0xE0 rfl rfl rfl
theorem andD8 (n : Byte) : Statement (.andD8 n) := of_opcode 0xE6 rfl rfl rfl
theorem addSpE8 (n : Byte) : Statement (.addSpE8 n) := of_opcode 0xE8 rfl rfl rfl
theorem ldAtA16A (nn : Word) : Statement (.ldAtA16A nn) := of_opcode 0xEA rfl rfl rfl
theorem xorD8 (n : Byte) : Statement (.xorD8 n) := of_opcode 0xEE rfl rfl rfl
theorem ldhAAtA8 (n : Byte) : Statement (.ldhAAtA8 n) := of_opcode 0xF0 rfl rfl rfl
theorem orD8 (n : Byte) : Statement (.orD8 n) := of_opcode 0xF6 rfl rfl rfl
theorem ldHlSpE8 (n : Byte) : Statement (.ldHlSpE8 n) := of_opcode 0xF8 rfl rfl rfl
theorem ldAAtA16 (nn : Word) : Statement (.ldAAtA16 nn) := of_opcode 0xFA rfl rfl rfl
theorem cpD8 (n : Byte) : Statement (.cpD8 n) := of_opcode 0xFE rfl rfl rfl
theorem nop : Statement .nop := of_opcode 0x00 rfl rfl rfl
theorem ldAtBcA : Statement .ldAtBcA := of_opcode 0x02 rfl rfl rfl
theorem incBc : Statement .incBc := of_opcode 0x03 rfl rfl rfl
theorem incB : Statement .incB := of_opcode 0x04 rfl rfl rfl
theorem decB : Statement .decB := of_opcode 0x05 rfl rfl rfl
theorem rlca : Statement .rlca := of_opcode 0x07 rfl rfl rfl
theorem addHlBc : Statement .addHlBc := of_opcode 0x09 rfl rfl rfl
theorem ldAAtBc : Statement .ldAAtBc := of_opcode 0x0A rfl rfl rfl
theorem decBc : Statement .decBc := of_opcode 0x0B rfl rfl rfl
theorem incC : Statement .incC := of_opcode 0x0C rfl rfl rfl
theorem decC : Statement .decC := of_opcode 0x0D rfl rfl rfl
theorem rrca : Statement .rrca := of_opcode 0x0F rfl rfl rfl
theorem ldAtDeA : Statement .ldAtDeA := of_opcode 0x12 rfl rfl rfl
theorem incDe : Statement .incDe := of_opcode 0x13 rfl rfl rfl
theorem incD : Statement .incD := of_opcode 0x14 rfl rfl rfl
theorem decD : Statement .decD := of_opcode 0x15 rfl rfl rfl
theorem rla : Statement .rla := of_opcode 0x17 rfl rfl rfl
theorem addHlDe : Statement .addHlDe := of_opcode 0x19 rfl rfl rfl
theorem ldAAtDe : Statement .ldAAtDe := of_opcode 0x1A rfl rfl rfl
theorem decDe : Statement .decDe := of_opcode 0x1B rfl rfl rfl
theorem incE : Statement .incE := of_opcode 0x1C rfl rfl rfl
theorem decE : Statement .decE := of_opcode 0x1D rfl rfl rfl
theorem rra : Statement .rra := of_opcode 0x1F rfl rfl rfl
theorem ldAtHlIncA : Statement .ldAtHlIncA := of_opcode 0x22 rfl rfl rfl
theorem incHl : Statement .incHl := of_opcode 0x23 rfl rfl rfl
theorem incH : Statement .incH := of_opcode 0x24 rfl rfl rfl
theorem decH : Statement .decH := of_opcode 0x25 rfl rfl rfl
theorem daa : Statement .daa := of_opcode 0x27 rfl rfl rfl
theorem addHlHl : Statement .addHlHl := of_opcode 0x29 rfl rfl rfl
theorem ldAAtHlInc : Statement .ldAAtHlInc := of_opcode 0x2A rfl rfl rfl
theorem decHl : Statement .decHl := of_opcode 0x2B rfl rfl rfl
theorem incL : Statement .incL := of_opcode 0x2C rfl rfl rfl
theorem decL : Statement .decL := of_opcode 0x2D rfl rfl rfl
theorem cpl : Statement .cpl := of_opcode 0x2F rfl rfl rfl
theorem ldAtHlDecA : Statement .ldAtHlDecA := of_opcode 0x32 rfl rfl rfl
theorem incSp : Statement .incSp := of_opcode 0x33 rfl rfl rfl
theorem incAtHl : Statement .incAtHl := of_opcode 0x34 rfl rfl rfl
theorem decAtHl : Statement .decAtHl := of_opcode 0x35 rfl rfl rfl
theorem scf : Statement .scf := of_opcode 0x37 rfl rfl rfl
theorem addHlSp : Statement .addHlSp := of_opcode 0x39 rfl rfl rfl
theorem ldAAtHlDec : Statement .ldAAtHlDec := of_opcode 0x3A rfl rfl rfl
theorem decSp : Statement .decSp := of_opcode 0x3B rfl rfl rfl
theorem incA : Statement .incA := of_opcode 0x3C rfl rfl rfl
theorem decA : Statement .decA := of_opcode 0x3D rfl rfl rfl
theorem ccf : Statement .ccf := of_opcode 0x3F rfl rfl rfl
theorem ldBB : Statement .ldBB := of_opcode 0x40 rfl rfl rfl
theorem ldBC : Statement .ldBC := of_opcode 0x41 rfl rfl rfl
theorem ldBD : Statement .ldBD := of_opcode 0x42 rfl rfl rfl
theorem ldBE : Statement .ldBE := of_opcode 0x43 rfl rfl rfl
theorem ldBH : Statement .ldBH := of_opcode 0x44 rfl rfl rfl
theorem ldBL : Statement .ldBL := of_opcode 0x45 rfl rfl rfl
theorem ldBAtHl : Statement .ldBAtHl := of_opcode 0x46 rfl rfl rfl
theorem ldBA : Statement .ldBA := of_opcode 0x47 rfl rfl rfl
theorem ldCB : Statement .ldCB := of_opcode 0x48 rfl rfl rfl
theorem ldCC : Statement .ldCC := of_opcode 0x49 rfl rfl rfl
theorem ldCD : Statement .ldCD := of_opcode 0x4A rfl rfl rfl
theorem ldCE : Statement .ldCE := of_opcode 0x4B rfl rfl rfl
theorem ldCH : Statement .ldCH := of_opcode 0x4C rfl rfl rfl
theorem ldCL : Statement .ldCL := of_opcode 0x4D rfl rfl rfl
theorem ldCAtHl : Statement .ldCAtHl := of_opcode 0x4E rfl rfl rfl
theorem ldCA : Statement .ldCA := of_opcode 0x4F rfl rfl rfl
theorem ldDB : Statement .ldDB := of_opcode 0x50 rfl rfl rfl
theorem ldDC : Statement .ldDC := of_opcode 0x51 rfl rfl rfl
theorem ldDD : Statement .ldDD := of_opcode 0x52 rfl rfl rfl
theorem ldDE : Statement .ldDE := of_opcode 0x53 rfl rfl rfl
theorem ldDH : Statement .ldDH := of_opcode 0x54 rfl rfl rfl
theorem ldDL : Statement .ldDL := of_opcode 0x55 rfl rfl rfl
theorem ldDAtHl : Statement .ldDAtHl := of_opcode 0x56 rfl rfl rfl
theorem ldDA : Statement .ldDA := of_opcode 0x57 rfl rfl rfl
theorem ldEB : Statement .ldEB := of_opcode 0x58 rfl rfl rfl
theorem ldEC : Statement .ldEC := of_opcode 0x59 rfl rfl rfl
theorem ldED : Statement .ldED := of_opcode 0x5A rfl rfl rfl
theorem ldEE : Statement .ldEE := of_opcode 0x5B rfl rfl rfl
theorem ldEH : Statement .ldEH := of_opcode 0x5C rfl rfl rfl
theorem ldEL : Statement .ldEL := of_opcode 0x5D rfl rfl rfl
theorem ldEAtHl : Statement .ldEAtHl := of_opcode 0x5E rfl rfl rfl
theorem ldEA : Statement .ldEA := of_opcode 0x5F rfl rfl rfl
theorem ldHB : Statement .ldHB := of_opcode 0x60 rfl rfl rfl
theorem ldHC : Statement .ldHC := of_opcode 0x61 rfl rfl rfl
theorem ldHD : Statement .ldHD := of_opcode 0x62 rfl rfl rfl
theorem ldHE : Statement .ldHE := of_opcode 0x63 rfl rfl rfl
theorem ldHH : Statement .ldHH := of_opcode 0x64 rfl rfl rfl
theorem ldHL : Statement .ldHL := of_opcode 0x65 rfl rfl rfl
theorem ldHAtHl : Statement .ldHAtHl := of_opcode 0x66 rfl rfl rfl
theorem ldHA : Statement .ldHA := of_opcode 0x67 rfl rfl rfl
theorem ldLB : Statement .ldLB := of_opcode 0x68 rfl rfl rfl
theorem ldLC : Statement .ldLC := of_opcode 0x69 rfl rfl rfl
theorem ldLD : Statement .ldLD := of_opcode 0x6A rfl rfl rfl
theorem ldLE : Statement .ldLE := of_opcode 0x6B rfl rfl rfl
theorem ldLH : Statement .ldLH := of_opcode 0x6C rfl rfl rfl
theorem ldLL : Statement .ldLL := of_opcode 0x6D rfl rfl rfl
theorem ldLAtHl : Statement .ldLAtHl := of_opcode 0x6E rfl rfl rfl
theorem ldLA : Statement .ldLA := of_opcode 0x6F rfl rfl rfl
theorem ldAtHlB : Statement .ldAtHlB := of_opcode 0x70 rfl rfl rfl
theorem ldAtHlC : Statement .ldAtHlC := of_opcode 0x71 rfl rfl rfl
theorem ldAtHlD : Statement .ldAtHlD := of_opcode 0x72 rfl rfl rfl
theorem ldAtHlE : Statement .ldAtHlE := of_opcode 0x73 rfl rfl rfl
theorem ldAtHlH : Statement .ldAtHlH := of_opcode 0x74 rfl rfl rfl
theorem ldAtHlL : Statement .ldAtHlL := of_opcode 0x75 rfl rfl rfl
theorem halt : Statement .halt := of_opcode 0x76 rfl rfl rfl
theorem ldAtHlA : Statement .ldAtHlA := of_opcode 0x77 rfl rfl rfl
theorem ldAB : Statement .ldAB := of_opcode 0x78 rfl rfl rfl
theorem ldAC : Statement .ldAC := of_opcode 0x79 rfl rfl rfl
theorem ldAD : Statement .ldAD := of_opcode 0x7A rfl rfl rfl
theorem ldAE : Statement .ldAE := of_opcode 0x7B rfl rfl rfl
theorem ldAH : Statement .ldAH := of_opcode 0x7C rfl rfl rfl
theorem ldAL : Statement .ldAL := of_opcode 0x7D rfl rfl rfl
theorem ldAAtHl : Statement .ldAAtHl := of_opcode 0x7E rfl rfl rfl
theorem ldAA : Statement .ldAA := of_opcode 0x7F rfl rfl rfl
theorem addAB : Statement .addAB := of_opcode 0x80 rfl rfl rfl
theorem addAC : Statement .addAC := of_opcode 0x81 rfl rfl rfl
theorem addAD : Statement .addAD := of_opcode 0x82 rfl rfl rfl
theorem addAE : Statement .addAE := of_opcode 0x83 rfl rfl rfl
theorem addAH : Statement .addAH := of_opcode 0x84 rfl rfl rfl
theorem addAL : Statement .addAL := of_opcode 0x85 rfl rfl rfl
theorem addAAtHl : Statement .addAAtHl := of_opcode 0x86 rfl rfl rfl
theorem addAA : Statement .addAA := of_opcode 0x87 rfl rfl rfl
theorem adcAB : Statement .adcAB := of_opcode 0x88 rfl rfl rfl
theorem adcAC : Statement .adcAC := of_opcode 0x89 rfl rfl rfl
theorem adcAD : Statement .adcAD := of_opcode 0x8A rfl rfl rfl
theorem adcAE : Statement .adcAE := of_opcode 0x8B rfl rfl rfl
theorem adcAH : Statement .adcAH := of_opcode 0x8C rfl rfl rfl
theorem adcAL : Statement .adcAL := of_opcode 0x8D rfl rfl rfl
theorem adcAAtHl : Statement .adcAAtHl := of_opcode 0x8E rfl rfl rfl
theorem adcAA : Statement .adcAA := of_opcode 0x8F rfl rfl rfl
theorem subB : Statement .subB := of_opcode 0x90 rfl rfl rfl
theorem subC : Statement .subC := of_opcode 0x91 rfl rfl rfl
theorem subD : Statement .subD := of_opcode 0x92 rfl rfl rfl
theorem subE : Statement .subE := of_opcode 0x93 rfl rfl rfl
theorem subH : Statement .subH := of_opcode 0x94 rfl rfl rfl
theorem subL : Statement .subL := of_opcode 0x95 rfl rfl rfl
theorem subAtHl : Statement .subAtHl := of_opcode 0x96 rfl rfl rfl
theorem subA : Statement .subA := of_opcode 0x97 rfl rfl rfl
theorem sbcAB : Statement .sbcAB := of_opcode 0x98 rfl rfl rfl
theorem sbcAC : Statement .sbcAC := of_opcode 0x99 rfl rfl rfl
theorem sbcAD : Statement .sbcAD := of_opcode 0x9A rfl rfl rfl
theorem sbcAE : Statement .sbcAE := of_opcode 0x9B rfl rfl rfl
theorem sbcAH : Statement .sbcAH := of_opcode 0x9C rfl rfl rfl
theorem sbcAL : Statement .sbcAL := of_opcode 0x9D rfl rfl rfl
theorem sbcAAtHl : Statement .sbcAAtHl := of_opcode 0x9E rfl rfl rfl
theorem sbcAA : Statement .sbcAA := of_opcode 0x9F rfl rfl rfl
theorem andB : Statement .andB := of_opcode 0xA0 rfl rfl rfl
theorem andC : Statement .andC := of_opcode 0xA1 rfl rfl rfl
theorem andD : Statement .andD := of_opcode 0xA2 rfl rfl rfl
theorem andE : Statement .andE := of_opcode 0xA3 rfl rfl rfl
theorem andH : Statement .andH := of_opcode 0xA4 rfl rfl rfl
theorem andL : Statement .andL := of_opcode 0xA5 rfl rfl rfl
theorem andAtHl : Statement .andAtHl := of_opcode 0xA6 rfl rfl rfl
theorem andA : Statement .andA := of_opcode 0xA7 rfl rfl rfl
theorem xorB : Statement .xorB := of_opcode 0xA8 rfl rfl rfl
theorem xorC : Statement .xorC := of_opcode 0xA9 rfl rfl rfl
theorem xorD : Statement .xorD := of_opcode 0xAA rfl rfl rfl
theorem xorE : Statement .xorE := of_opcode 0xAB rfl rfl rfl
theorem xorH : Statement .xorH := of_opcode 0xAC rfl rfl rfl
theorem xorL : Statement .xorL := of_opcode 0xAD rfl rfl rfl
theorem xorAtHl : Statement .xorAtHl := of_opcode 0xAE rfl rfl rfl
theorem xorA : Statement .xorA := of_opcode 0xAF rfl rfl rfl
theorem orB : Statement .orB := of_opcode 0xB0 rfl rfl rfl
theorem orC : Statement .orC := of_opcode 0xB1 rfl rfl rfl
theorem orD : Statement .orD := of_opcode 0xB2 rfl rfl rfl
theorem orE : Statement .orE := of_opcode 0xB3 rfl rfl rfl
theorem orH : Statement .orH := of_opcode 0xB4 rfl rfl rfl
theorem orL : Statement .orL := of_opcode 0xB5 rfl rfl rfl
theorem orAtHl : Statement .orAtHl := of_opcode 0xB6 rfl rfl rfl
theorem orA : Statement .orA := of_opcode 0xB7 rfl rfl rfl
theorem cpB : Statement .cpB := of_opcode 0xB8 rfl rfl rfl
theorem cpC : Statement .cpC := of_opcode 0xB9 rfl rfl rfl
theorem cpD : Statement .cpD := of_opcode 0xBA rfl rfl rfl
theorem cpE : Statement .cpE := of_opcode 0xBB rfl rfl rfl
theorem cpH : Statement .cpH := of_opcode 0xBC rfl rfl rfl
theorem cpL : Statement .cpL := of_opcode 0xBD rfl rfl rfl
theorem cpAtHl : Statement .cpAtHl := of_opcode 0xBE rfl rfl rfl
theorem cpA : Statement .cpA := of_opcode 0xBF rfl rfl rfl
theorem retNz : Statement .retNz := of_opcode 0xC0 rfl rfl rfl
theorem popBc : Statement .popBc := of_opcode 0xC1 rfl rfl rfl
theorem pushBc : Statement .pushBc := of_opcode 0xC5 rfl rfl rfl
theorem rst00 : Statement .rst00 := of_opcode 0xC7 rfl rfl rfl
theorem retZ : Statement .retZ := of_opcode 0xC8 rfl rfl rfl
theorem ret : Statement .ret := of_opcode 0xC9 rfl rfl rfl
theorem rst08 : Statement .rst08 := of_opcode 0xCF rfl rfl rfl
theorem retNc : Statement .retNc := of_opcode 0xD0 rfl rfl rfl
theorem popDe : Statement .popDe := of_opcode 0xD1 rfl rfl rfl
theorem unknownD3 : Statement .unknownD3 := of_opcode 0xD3 rfl rfl rfl
theorem pushDe : Statement .pushDe := of_opcode 0xD5 rfl rfl rfl
theorem rst10 : Statement .rst10 := of_opcode 0xD7 rfl rfl rfl
theorem retC : Statement .retC := of_opcode 0xD8 rfl rfl rfl
theorem reti : Statement .reti := of_opcode 0xD9 rfl rfl rfl
theorem unknownDB : Statement .unknownDB := of_opcode 0xDB rfl rfl rfl
theorem unknownDD : Statement .unknownDD := of_opcode 0xDD rfl rfl rfl
theorem rst18 : Statement .rst18 := of_opcode 0xDF rfl rfl rfl
theorem popHl : Statement .popHl := of_opcode 0xE1 rfl rfl rfl
theorem ldAtCA : Statement .ldAtCA := of_opcode 0xE2 rfl rfl rfl
theorem unknownE3 : Statement .unknownE3 := of_opcode 0xE3 rfl rfl rfl
theorem unknownE4 : Statement .unknownE4 := of_opcode 0xE4 rfl rfl rfl
theorem pushHl : Statement .pushHl := of_opcode 0xE5 rfl rfl rfl
theorem rst20 : Statement .rst20 := of_opcode 0xE7 rfl rfl rfl
theorem jpHl : Statement .jpHl := of_opcode 0xE9 rfl rfl rfl
theorem unknownEB : Statement .unknownEB := of_opcode 0xEB rfl rfl rfl
theorem unknownEC : Statement .unknownEC := of_opcode 0xEC rfl rfl rfl
theorem unknownED : Statement .unknownED := of_opcode 0xED rfl rfl rfl
theorem rst28 : Statement .rst28 := of_opcode 0xEF rfl rfl rfl
theorem popAf : Statement .popAf := of_opcode 0xF1 rfl rfl rfl
theorem ldAAtC : Statement .ldAAtC := of_opcode 0xF2 rfl rfl rfl
theorem di : Statement .di := of_opcode 0xF3 rfl rfl rfl
theorem unknownF4 : Statement .unknownF4 := of_opcode 0xF4 rfl rfl rfl
theorem pushAf : Statement .pushAf := of_opcode 0xF5 rfl rfl rfl
theorem rst30 : Statement .rst30 := of_opcode 0xF7 rfl rfl rfl
theorem ldSpHl : Statement .ldSpHl := of_opcode 0xF9 rfl rfl rfl
theorem ei : Statement .ei := of_opcode 0xFB rfl rfl rfl
theorem unknownFC : Statement .unknownFC := of_opcode 0xFC rfl rfl rfl
theorem unknownFD : Statement .unknownFD := of_opcode 0xFD rfl rfl rfl
theorem rst38 : Statement .rst38 := of_opcode 0xFF rfl rfl rfl
theorem rlcB : Statement .rlcB := of_opcode 0xCB rfl rfl rfl
theorem rlcC : Statement .rlcC := of_opcode 0xCB rfl rfl rfl
theorem rlcD : Statement .rlcD := of_opcode 0xCB rfl rfl rfl
theorem rlcE : Statement .rlcE := of_opcode 0xCB rfl rfl rfl
theorem rlcH : Statement .rlcH := of_opcode 0xCB rfl rfl rfl
theorem rlcL : Statement .rlcL := of_opcode 0xCB rfl rfl rfl
theorem rlcAtHl : Statement .rlcAtHl := of_opcode 0xCB rfl rfl rfl
theorem rlcA : Statement .rlcA := of_opcode 0xCB rfl rfl rfl
theorem rrcB : Statement .rrcB := of_opcode 0xCB rfl rfl rfl
theorem rrcC : Statement .rrcC := of_opcode 0xCB rfl rfl rfl
theorem rrcD : Statement .rrcD := of_opcode 0xCB rfl rfl rfl
theorem rrcE : Statement .rrcE := of_opcode 0xCB rfl rfl rfl
theorem rrcH : Statement .rrcH := of_opcode 0xCB rfl rfl rfl
theorem rrcL : Statement .rrcL := of_opcode 0xCB rfl rfl rfl
theorem rrcAtHl : Statement .rrcAtHl := of_opcode 0xCB rfl rfl rfl
theorem rrcA : Statement .rrcA := of_opcode 0xCB rfl rfl rfl
theorem rlB : Statement .rlB := of_opcode 0xCB rfl rfl rfl
theorem rlC : Statement .rlC := of_opcode 0xCB rfl rfl rfl
theorem rlD : Statement .rlD := of_opcode 0xCB rfl rfl rfl
theorem rlE : Statement .rlE := of_opcode 0xCB rfl rfl rfl
theorem rlH : Statement .rlH := of_opcode 0xCB rfl rfl rfl
theorem rlL : Statement .rlL := of_opcode 0xCB rfl rfl rfl
theorem rlAtHl : Statement .rlAtHl := of_opcode 0xCB rfl rfl rfl
theorem rlA : Statement .rlA := of_opcode 0xCB rfl rfl rfl
theorem rrB : Statement .rrB := of_opcode 0xCB rfl rfl rfl
theorem rrC : Statement .rrC := of_opcode 0xCB rfl rfl rfl
theorem rrD : Statement .rrD := of_opcode 0xCB rfl rfl rfl
theorem rrE : Statement .rrE := of_opcode 0xCB rfl rfl rfl
theorem rrH : Statement .rrH := of_opcode 0xCB rfl rfl rfl
theorem rrL : Statement .rrL := of_opcode 0xCB rfl rfl rfl
theorem rrAtHl : Statement .rrAtHl := of_opcode 0xCB rfl rfl rfl
theorem rrA : Statement .rrA := of_opcode 0xCB rfl rfl rfl
theorem slaB : Statement .slaB := of_opcode 0xCB rfl rfl rfl
theorem slaC : Statement .slaC := of_opcode 0xCB rfl rfl rfl
theorem slaD : Statement .slaD := of_opcode 0xCB rfl rfl rfl
theorem slaE : Statement .slaE := of_opcode 0xCB rfl rfl rfl
theorem slaH : Statement .slaH := of_opcode 0xCB rfl rfl rfl
theorem slaL : Statement .slaL := of_opcode 0xCB rfl rfl rfl
theorem slaAtHl : Statement .slaAtHl := of_opcode 0xCB rfl rfl rfl
theorem slaA : Statement .slaA := of_opcode 0xCB rfl rfl rfl
theorem sraB : Statement .sraB := of_opcode 0xCB rfl rfl rfl
theorem sraC : Statement .sraC := of_opcode 0xCB rfl rfl rfl
theorem sraD : Statement .sraD := of_opcode 0xCB rfl rfl rfl
theorem sraE : Statement .sraE := of_opcode 0xCB rfl rfl rfl
theorem sraH : Statement .sraH := of_opcode 0xCB rfl rfl rfl
theorem sraL : Statement .sraL := of_opcode 0xCB rfl rfl rfl
theorem sraAtHl : Statement .sraAtHl := of_opcode 0xCB rfl rfl rfl
theorem sraA : Statement .sraA := of_opcode 0xCB rfl rfl rfl
theorem swapB : Statement .swapB := of_opcode 0xCB rfl rfl rfl
theorem swapC : Statement .swapC := of_opcode 0xCB rfl rfl rfl
theorem swapD : Statement .swapD := of_opcode 0xCB rfl rfl rfl
theorem swapE : Statement .swapE := of_opcode 0xCB rfl rfl rfl
theorem swapH : Statement .swapH := of_opcode 0xCB rfl rfl rfl
theorem swapL : Statement .swapL := of_opcode 0xCB rfl rfl rfl
theorem swapAtHl : Statement .swapAtHl := of_opcode 0xCB rfl rfl rfl
theorem swapA : Statement .swapA := of_opcode 0xCB rfl rfl rfl
theorem srlB : Statement .srlB := of_opcode 0xCB rfl rfl rfl
theorem srlC : Statement .srlC := of_opcode 0xCB rfl rfl rfl
theorem srlD : Statement .srlD := of_opcode 0xCB rfl rfl rfl
theorem srlE : Statement .srlE := of_opcode 0xCB rfl rfl rfl
theorem srlH : Statement .srlH := of_opcode 0xCB rfl rfl rfl
theorem srlL : Statement .srlL := of_opcode 0xCB rfl rfl rfl
theorem srlAtHl : Statement .srlAtHl := of_opcode 0xCB rfl rfl rfl
theorem srlA : Statement .srlA := of_opcode 0xCB rfl rfl rfl
theorem bit0B : Statement .bit0B := of_opcode 0xCB rfl rfl rfl
theorem bit0C : Statement .bit0C := of_opcode 0xCB rfl rfl rfl
theorem bit0D : Statement .bit0D := of_opcode 0xCB rfl rfl rfl
theorem bit0E : Statement .bit0E := of_opcode 0xCB rfl rfl rfl
theorem bit0H : Statement .bit0H := of_opcode 0xCB rfl rfl rfl
theorem bit0L : Statement .bit0L := of_opcode 0xCB rfl rfl rfl
theorem bit0AtHl : Statement .bit0AtHl := of_opcode 0xCB rfl rfl rfl
theorem bit0A : Statement .bit0A := of_opcode 0xCB rfl rfl rfl
theorem bit1B : Statement .bit1B := of_opcode 0xCB rfl rfl rfl
theorem bit1C : Statement .bit1C := of_opcode 0xCB rfl rfl rfl
theorem bit1D : Statement .bit1D := of_opcode 0xCB rfl rfl rfl
theorem bit1E : Statement .bit1E := of_opcode 0xCB rfl rfl rfl
theorem bit1H : Statement .bit1H := of_opcode 0xCB rfl rfl rfl
theorem bit1L : Statement .bit1L := of_opcode 0xCB rfl rfl rfl
theorem bit1AtHl : Statement .bit1AtHl := of_opcode 0xCB rfl rfl rfl
theorem bit1A : Statement .bit1A := of_opcode 0xCB rfl rfl rfl
theorem bit2B : Statement .bit2B := of_opcode 0xCB rfl rfl rfl
theorem bit2C : Statement .bit2C := of_opcode 0xCB rfl rfl rfl
theorem bit2D : Statement .bit2D := of_opcode 0xCB rfl rfl rfl
theorem bit2E : Statement .bit2E := of_opcode 0xCB rfl rfl rfl
theorem bit2H : Statement .bit2H := of_opcode 0xCB rfl rfl rfl
theorem bit2L : Statement .bit2L := of_opcode 0xCB rfl rfl rfl
theorem bit2AtHl : Statement .bit2AtHl := of_opcode 0xCB rfl rfl rfl
theorem bit2A : Statement .bit2A := of_opcode 0xCB rfl rfl rfl
theorem bit3B : Statement .bit3B := of_opcode 0xCB rfl rfl rfl
theorem bit3C : Statement .bit3C := of_opcode 0xCB rfl rfl rfl
theorem bit3D : Statement .bit3D := of_opcode 0xCB rfl rfl rfl
theorem bit3E : Statement .bit3E := of_opcode 0xCB rfl rfl rfl
theorem bit3H : Statement .bit3H := of_opcode 0xCB rfl rfl rfl
theorem bit3L : Statement .bit3L := of_opcode 0xCB rfl rfl rfl
theorem bit3AtHl : Statement .bit3AtHl := of_opcode 0xCB rfl rfl rfl
theorem bit3A : Statement .bit3A := of_opcode 0xCB rfl rfl rfl
theorem bit4B : Statement .bit4B := of_opcode 0xCB rfl rfl rfl
theorem bit4C : Statement .bit4C := of_opcode 0xCB rfl rfl rfl
theorem bit4D : Statement .bit4D := of_opcode 0xCB rfl rfl rfl
theorem bit4E : Statement .bit4E := of_opcode 0xCB rfl rfl rfl
theorem bit4H : Statement .bit4H := of_opcode 0xCB rfl rfl rfl
theorem bit4L : Statement .bit4L := of_opcode 0xCB rfl rfl rfl
theorem bit4AtHl : Statement .bit4AtHl := of_opcode 0xCB rfl rfl rfl
theorem bit4A : Statement .bit4A := of_opcode 0xCB rfl rfl rfl
theorem bit5B : Statement .bit5B := of_opcode 0xCB rfl rfl rfl
theorem bit5C : Statement .bit5C := of_opcode 0xCB rfl rfl rfl
theorem bit5D : Statement .bit5D := of_opcode 0xCB rfl rfl rfl
theorem bit5E : Statement .bit5E := of_opcode 0xCB rfl rfl rfl
theorem bit5H : Statement .bit5H := of_opcode 0xCB rfl rfl rfl
theorem bit5L : Statement .bit5L := of_opcode 0xCB rfl rfl rfl
theorem bit5AtHl : Statement .bit5AtHl := of_opcode 0xCB rfl rfl rfl
theorem bit5A : Statement .bit5A := of_opcode 0xCB rfl rfl rfl
theorem bit6B : Statement .bit6B := of_opcode 0xCB rfl rfl rfl
theorem bit6C : Statement .bit6C := of_opcode 0xCB rfl rfl rfl
theorem bit6D : Statement .bit6D := of_opcode 0xCB rfl rfl rfl
theorem bit6E : Statement .bit6E := of_opcode 0xCB rfl rfl rfl
theorem bit6H : Statement .bit6H := of_opcode 0xCB rfl rfl rfl
theorem bit6L : Statement .bit6L := of_opcode 0xCB rfl rfl rfl
theorem bit6AtHl : Statement .bit6AtHl := of_opcode 0xCB rfl rfl rfl
theorem bit6A : Statement .bit6A := of_opcode 0xCB rfl rfl rfl
theorem bit7B : Statement .bit7B := of_opcode 0xCB rfl rfl rfl
theorem bit7C : Statement .bit7C := of_opcode 0xCB rfl rfl rfl
theorem bit7D : Statement .bit7D := of_opcode 0xCB rfl rfl rfl
theorem bit7E : Statement .bit7E := of_opcode 0xCB rfl rfl rfl
theorem bit7H : Statement .bit7H := of_opcode 0xCB rfl rfl rfl
theorem bit7L : Statement .bit7L := of_opcode 0xCB rfl rfl rfl
theorem bit7AtHl : Statement .bit7AtHl := of_opcode 0xCB rfl rfl rfl
theorem bit7A : Statement .bit7A := of_opcode 0xCB rfl rfl rfl
theorem res0B : Statement .res0B := of_opcode 0xCB rfl rfl rfl
theorem res0C : Statement .res0C := of_opcode 0xCB rfl rfl rfl
theorem res0D : Statement .res0D := of_opcode 0xCB rfl rfl rfl
theorem res0E : Statement .res0E := of_opcode 0xCB rfl rfl rfl
theorem res0H : Statement .res0H := of_opcode 0xCB rfl rfl rfl
theorem res0L : Statement .res0L := of_opcode 0xCB rfl rfl rfl
theorem res0AtHl : Statement .res0AtHl := of_opcode 0xCB rfl rfl rfl
theorem res0A : Statement .res0A := of_opcode 0xCB rfl rfl rfl
theorem res1B : Statement .res1B := of_opcode 0xCB rfl rfl rfl
theorem res1C : Statement .res1C := of_opcode 0xCB rfl rfl rfl
theorem res1D : Statement .res1D := of_opcode 0xCB rfl rfl rfl
theorem res1E : Statement .res1E := of_opcode 0xCB rfl rfl rfl
theorem res1H : Statement .res1H := of_opcode 0xCB rfl rfl rfl
theorem res1L : Statement .res1L := of_opcode 0xCB rfl rfl rfl
theorem res1AtHl : Statement .res1AtHl := of_opcode 0xCB rfl rfl rfl
theorem res1A : Statement .res1A := of_opcode 0xCB rfl rfl rfl
theorem res2B : Statement .res2B := of_opcode 0xCB rfl rfl rfl
theorem res2C : Statement .res2C := of_opcode 0xCB rfl rfl rfl
theorem res2D : Statement .res2D := of_opcode 0xCB rfl rfl rfl
theorem res2E : Statement .res2E := of_opcode 0xCB rfl rfl rfl
theorem res2H : Statement .res2H := of_opcode 0xCB rfl rfl rfl
theorem res2L : Statement .res2L := of_opcode 0xCB rfl rfl rfl
theorem res2AtHl : Statement .res2AtHl := of_opcode 0xCB rfl rfl rfl
theorem res2A : Statement .res2A := of_opcode 0xCB rfl rfl rfl
theorem res3B : Statement .res3B := of_opcode 0xCB rfl rfl rfl
theorem res3C : Statement .res3C := of_opcode 0xCB rfl rfl rfl
theorem res3D : Statement .res3D := of_opcode 0xCB rfl rfl rfl
theorem res3E : Statement .res3E := of_opcode 0xCB rfl rfl rfl
theorem res3H : Statement .res3H := of_opcode 0xCB rfl rfl rfl
theorem res3L : Statement .res3L := of_opcode 0xCB rfl rfl rfl
theorem res3AtHl : Statement .res3AtHl := of_opcode 0xCB rfl rfl rfl
theorem res3A : Statement .res3A := of_opcode 0xCB rfl rfl rfl
theorem res4B : Statement .res4B := of_opcode 0xCB rfl rfl rfl
theorem res4C : Statement .res4C := of_opcode 0xCB rfl rfl rfl
theorem res4D : Statement .res4D := of_opcode 0xCB rfl rfl rfl
theorem res4E : Statement .res4E := of_opcode 0xCB rfl rfl rfl
theorem res4H : Statement .res4H := of_opcode 0xCB rfl rfl rfl
theorem res4L : Statement .res4L := of_opcode 0xCB rfl rfl rfl
theorem res4AtHl : Statement .res4AtHl := of_opcode 0xCB rfl rfl rfl
theorem res4A : Statement .res4A := of_opcode 0xCB rfl rfl rfl
theorem res5B : Statement .res5B := of_opcode 0xCB rfl rfl rfl
theorem res5C : Statement .res5C := of_opcode 0xCB rfl rfl rfl
theorem res5D : Statement .res5D := of_opcode 0xCB rfl rfl rfl
theorem res5E : Statement .res5E := of_opcode 0xCB rfl rfl rfl
theorem res5H : Statement .res5H := of_opcode 0xCB rfl rfl rfl
theorem res5L : Statement .res5L := of_opcode 0xCB rfl rfl rfl
theorem res5AtHl : Statement .res5AtHl := of_opcode 0xCB rfl rfl rfl
theorem res5A : Statement .res5A := of_opcode 0xCB rfl rfl rfl
theorem res6B : Statement .res6B := of_opcode 0xCB rfl rfl rfl
theorem res6C : Statement .res6C := of_opcode 0xCB rfl rfl rfl
theorem res6D : Statement .res6D := of_opcode 0xCB rfl rfl rfl
theorem res6E : Statement .res6E := of_opcode 0xCB rfl rfl rfl
theorem res6H : Statement .res6H := of_opcode 0xCB rfl rfl rfl
theorem res6L : Statement .res6L := of_opcode 0xCB rfl rfl rfl
theorem res6AtHl : Statement .res6AtHl := of_opcode 0xCB rfl rfl rfl
theorem res6A : Statement .res6A := of_opcode 0xCB rfl rfl rfl
theorem res7B : Statement .res7B := of_opcode 0xCB rfl rfl rfl
theorem res7C : Statement .res7C := of_opcode 0xCB rfl rfl rfl
theorem res7D : Statement .res7D := of_opcode 0xCB rfl rfl rfl
theorem res7E : Statement .res7E := of_opcode 0xCB rfl rfl rfl
theorem res7H : Statement .res7H := of_opcode 0xCB rfl rfl rfl
theorem res7L : Statement .res7L := of_opcode 0xCB rfl rfl rfl
theorem res7AtHl : Statement .res7AtHl := of_opcode 0xCB rfl rfl rfl
theorem res7A : Statement .res7A := of_opcode 0xCB rfl rfl rfl
theorem set0B : Statement .set0B := of_opcode 0xCB rfl rfl rfl
theorem set0C : Statement .set0C := of_opcode 0xCB rfl rfl rfl
theorem set0D : Statement .set0D := of_opcode 0xCB rfl rfl rfl
theorem set0E : Statement .set0E := of_opcode 0xCB rfl rfl rfl
theorem set0H : Statement .set0H := of_opcode 0xCB rfl rfl rfl
theorem set0L : Statement .set0L := of_opcode 0xCB rfl rfl rfl
theorem set0AtHl : Statement .set0AtHl := of_opcode 0xCB rfl rfl rfl
theorem set0A : Statement .set0A := of_opcode 0xCB rfl rfl rfl
theorem set1B : Statement .set1B := of_opcode 0xCB rfl rfl rfl
theorem set1C : Statement .set1C := of_opcode 0xCB rfl rfl rfl
theorem set1D : Statement .set1D := of_opcode 0xCB rfl rfl rfl
theorem set1E : Statement .set1E := of_opcode 0xCB rfl rfl rfl
theorem set1H : Statement .set1H := of_opcode 0xCB rfl rfl rfl
theorem set1L : Statement .set1L := of_opcode 0xCB rfl rfl rfl
theorem set1AtHl : Statement .set1AtHl := of_opcode 0xCB rfl rfl rfl
theorem set1A : Statement .set1A := of_opcode 0xCB rfl rfl rfl
theorem set2B : Statement .set2B := of_opcode 0xCB rfl rfl rfl
theorem set2C : Statement .set2C := of_opcode 0xCB rfl rfl rfl
theorem set2D : Statement .set2D := of_opcode 0xCB rfl rfl rfl
theorem set2E : Statement .set2E := of_opcode 0xCB rfl rfl rfl
theorem set2H : Statement .set2H := of_opcode 0xCB rfl rfl rfl
theorem set2L : Statement .set2L := of_opcode 0xCB rfl rfl rfl
theorem set2AtHl : Statement .set2AtHl := of_opcode 0xCB rfl rfl rfl
theorem set2A : Statement .set2A := of_opcode 0xCB rfl rfl rfl
theorem set3B : Statement .set3B := of_opcode 0xCB rfl rfl rfl
theorem set3C : Statement .set3C := of_opcode 0xCB rfl rfl rfl
theorem set3D : Statement .set3D := of_opcode 0xCB rfl rfl rfl
theorem set3E : Statement .set3E := of_opcode 0xCB rfl rfl rfl
theorem set3H : Statement .set3H := of_opcode 0xCB rfl rfl rfl
theorem set3L : Statement .set3L := of_opcode 0xCB rfl rfl rfl
theorem set3AtHl : Statement .set3AtHl := of_opcode 0xCB rfl rfl rfl
theorem set3A : Statement .set3A := of_opcode 0xCB rfl rfl rfl
theorem set4B : Statement .set4B := of_opcode 0xCB rfl rfl rfl
theorem set4C : Statement .set4C := of_opcode 0xCB rfl rfl rfl
theorem set4D : Statement .set4D := of_opcode 0xCB rfl rfl rfl
theorem set4E : Statement .set4E := of_opcode 0xCB rfl rfl rfl
theorem set4H : Statement .set4H := of_opcode 0xCB rfl rfl rfl
theorem set4L : Statement .set4L := of_opcode 0xCB rfl rfl rfl
theorem set4AtHl : Statement .set4AtHl := of_opcode 0xCB rfl rfl rfl
theorem set4A : Statement .set4A := of_opcode 0xCB rfl rfl rfl
theorem set5B : Statement .set5B := of_opcode 0xCB rfl rfl rfl
theorem set5C : Statement .set5C := of_opcode 0xCB rfl rfl rfl
theorem set5D : Statement .set5D := of_opcode 0xCB rfl rfl rfl
theorem set5E : Statement .set5E := of_opcode 0xCB rfl rfl rfl
theorem set5H : Statement .set5H := of_opcode 0xCB rfl rfl rfl
theorem set5L : Statement .set5L := of_opcode 0xCB rfl rfl rfl
theorem set5AtHl : Statement .set5AtHl := of_opcode 0xCB rfl rfl rfl
theorem set5A : Statement .set5A := of_opcode 0xCB rfl rfl rfl
theorem set6B : Statement .set6B := of_opcode 0xCB rfl rfl rfl
theorem set6C : Statement .set6C := of_opcode 0xCB rfl rfl rfl
theorem set6D : Statement .set6D := of_opcode 0xCB rfl rfl rfl
theorem set6E : Statement .set6E := of_opcode 0xCB rfl rfl rfl
theorem set6H : Statement .set6H := of_opcode 0xCB rfl rfl rfl
theorem set6L : Statement .set6L := of_opcode 0xCB rfl rfl rfl
theorem set6AtHl : Statement .set6AtHl := of_opcode 0xCB rfl rfl rfl
theorem set6A : Statement .set6A := of_opcode 0xCB rfl rfl rfl
theorem set7B : Statement .set7B := of_opcode 0xCB rfl rfl rfl
theorem set7C : Statement .set7C := of_opcode 0xCB rfl rfl rfl
theorem set7D : Statement .set7D := of_opcode 0xCB rfl rfl rfl
theorem set7E : Statement .set7E := of_opcode 0xCB rfl rfl rfl
theorem set7H : Statement .set7H := of_opcode 0xCB rfl rfl rfl
theorem set7L : Statement .set7L := of_opcode 0xCB rfl rfl rfl
theorem set7AtHl : Statement .set7AtHl := of_opcode 0xCB rfl rfl rfl
theorem set7A : Statement .set7A := of_opcode 0xCB rfl rfl rfl

end Sys2Proof.Laws.Length
end

