-- ==== Sys2Proof/Laws/Scheduler.lean ====
section
/-! SUPPORT. The scheduler's parts, once: an observation as an induction over its calls, the boundary that takes no interrupt, the
boundary that starts an iteration at once, and that a decodable opcode is no UNKNOWN row (60_exceptions.md R250, R262, R263). -/

namespace Sys2Proof.Machine

/-- What every host call keeps, an observation keeps (R263, R281). -/
theorem State.observe_induction {P : State → Prop} {s : State} (h : P { s with hostCalls := s.hostCalls.tail })
    (call : ∀ u c, P u → P (u.applyCall c)) : P s.observe := by
  have fold : ∀ (b : List HostCall) (u : State), P u → P (b.foldl State.applyCall u) := by
    intro b
    induction b with
    | nil => intro u hu; exact hu
    | cons c rest ih => intro u hu; exact ih _ (call u c hu)
  unfold State.observe
  split
  · rename_i hc
    have : ({ s with hostCalls := s.hostCalls.tail } : State) = s := by rw [hc, List.tail_nil, ← hc]
    exact this ▸ h
  · rename_i b later hc
    rw [hc] at h
    exact fold b _ h

/-- With nothing to come, an observation changes nothing. -/
theorem State.observe_noInputs {s : State} (h : s.noInputs) : s.observe = s := by
  simp [State.observe, h.1]

/-- Dispatch does nothing where it is off, shadowed or has nothing pending (R250, R252). -/
theorem State.dispatch_none {s : State} (h : s.params.dispatch = .off ∨ s.eiShadow = true ∨ s.pollPending = none) :
    s.dispatch = s := by
  unfold State.dispatch
  split
  · rename_i hd
    rcases h with h | h | h
    · exact absurd (h.symm.trans hd.1) (by decide)
    · exact absurd (h.symm.trans hd.2) (by decide)
    · rw [h]
  · rfl

/-- A boundary that nothing holds up starts an iteration with the EI delay over (R263). -/
theorem step_starts_iteration {s : State} (hr : s.running = true) (hs : s.sched = .running) (hin : s.noInputs)
    (hh : s.haltWait = false) (hd : s.params.dispatch = .off ∨ s.eiShadow = true ∨ s.pollPending = none) :
    step s = iterate { s with eiShadow := false } := by
  have hi : s.sampleIrq = s := by simp [State.sampleIrq, hin.2]
  have hw : s.wake = s := by simp [State.wake, hh]
  simp only [step, schedulerStep, hs, State.observe_noInputs hin, boundary, hr, if_true, hi, hw, hh, State.leaveBoundary,
    State.dispatch_none hd]
  simp

/-- The first PC increment of step 8, or its omission: halt_repeat is clear after it (R75, R224). -/
theorem State.passOpcode_eq (s : State) :
    s.passOpcode = { s with haltRepeat := false, pc := if s.haltRepeat then s.pc else s.pc + 1 } := by
  unfold State.passOpcode
  split
  · rfl
  · rename_i h
    rw [← (Bool.not_eq_true _).mp h]

/-- Steps 1 and 2: what a breakpoint at pc and the sticky step set (R262, R264, R265). -/
theorem State.checkBreakpoint_armSticky (s : State) :
    s.checkBreakpoint.armSticky =
      { s with
        debugMode := s.debugMode || decide (s.pc ∈ s.breakpoints)
        stepArmed := s.stepArmed || s.stickyStep || decide (s.pc ∈ s.breakpoints)
        stickyStep := s.stickyStep || decide (s.pc ∈ s.breakpoints) } := by
  unfold State.armSticky State.checkBreakpoint State.isBreakpointEnabled
  by_cases h : s.pc ∈ s.breakpoints
  · simp [h]
  · cases hs : s.stickyStep
    · simp only [h, decide_false, Bool.false_eq_true, if_false, hs, Bool.or_false]
      rw [← hs]
    · simp [h, hs]

/-- The instruction fetched for a decodable opcode is no UNKNOWN row (R88, R235). -/
theorem fetchInstr_known {op : Byte} (h : knownOpcode op = true) (s : State) (a : Word) (o : Byte) :
    (s.fetchInstr (primary op) a).form ≠ .unknown o := by
  have he := primary_encodes op
  unfold knownOpcode at h
  generalize primary op = e at *
  cases e with
  | bare => exact he.2.2 o
  | imm8 => exact (he _).2.2 o
  | imm16 => exact (he _).2.2 o
  | unknown => cases h

/-- An opcode whose entry is no UNKNOWN one is decodable. -/
theorem knownOpcode_of {op : Byte} (h : ∀ i, primary op ≠ .unknown i) : knownOpcode op = true := by
  unfold knownOpcode
  generalize primary op = e at *
  cases e <;> first | rfl | exact absurd rfl (h _)

end Sys2Proof.Machine
end

