-- ==== Sys2Proof/Tests/Slice0.lean ====
section
/-! SUPPORT. Tests: the WellFormed smoke, a word of every constructor read by the decoder, single steps against the vectors of
95_test_vectors.md, and a witness for the hypotheses of every statement. Every expected result is the spec's. -/

open Sys2Proof Sys2Proof.Machine

/-! ### WellFormed -/

/-- PREFIX CB's term is the one ill-formed one, whatever its operand (30_encoding.md R86). -/
theorem test_wellFormed_refuses_prefixCb :
    Instr.wellFormed (.prefixCb 0x00) = false ∧ Instr.wellFormed (.prefixCb 0xFF) = false := by decide

theorem test_wellFormed_accepts_a_cb_row : Instr.wellFormed .swapA = true := by decide

/-! ### Decoding: one word of every row, from the opcode maps of 30_encoding.md R85 and R87; operands 0x12, and 0x34 0x12 -/

/-- The instructions that lists of bytes decode to with nothing left over. -/
def readAll (words : List (List Byte)) : List (Option Instr) :=
  words.map (fun w => match decode w with
    | .ok (i, []) => some i
    | _ => none)

theorem test_decode_row_0 :
    readAll
      [[0x00], [0x01, 0x34, 0x12], [0x02], [0x03], [0x04], [0x05], [0x06, 0x12], [0x07], [0x08, 0x34, 0x12],
        [0x09], [0x0A], [0x0B], [0x0C], [0x0D], [0x0E, 0x12], [0x0F]] =
      [.nop, .ldBcD16 0x1234, .ldAtBcA, .incBc, .incB, .decB, .ldBD8 0x12, .rlca, .ldAtA16Sp 0x1234, .addHlBc,
        .ldAAtBc, .decBc, .incC, .decC, .ldCD8 0x12, .rrca].map some := by
  rfl

theorem test_decode_row_1 :
    readAll
      [[0x10, 0x12], [0x11, 0x34, 0x12], [0x12], [0x13], [0x14], [0x15], [0x16, 0x12], [0x17], [0x18, 0x12],
        [0x19], [0x1A], [0x1B], [0x1C], [0x1D], [0x1E, 0x12], [0x1F]] =
      [.stop 0x12, .ldDeD16 0x1234, .ldAtDeA, .incDe, .incD, .decD, .ldDD8 0x12, .rla, .jrE8 0x12, .addHlDe,
        .ldAAtDe, .decDe, .incE, .decE, .ldED8 0x12, .rra].map some := by
  rfl

theorem test_decode_row_2 :
    readAll
      [[0x20, 0x12], [0x21, 0x34, 0x12], [0x22], [0x23], [0x24], [0x25], [0x26, 0x12], [0x27], [0x28, 0x12],
        [0x29], [0x2A], [0x2B], [0x2C], [0x2D], [0x2E, 0x12], [0x2F]] =
      [.jrNzE8 0x12, .ldHlD16 0x1234, .ldAtHlIncA, .incHl, .incH, .decH, .ldHD8 0x12, .daa, .jrZE8 0x12,
        .addHlHl, .ldAAtHlInc, .decHl, .incL, .decL, .ldLD8 0x12, .cpl].map some := by
  rfl

theorem test_decode_row_3 :
    readAll
      [[0x30, 0x12], [0x31, 0x34, 0x12], [0x32], [0x33], [0x34], [0x35], [0x36, 0x12], [0x37], [0x38, 0x12],
        [0x39], [0x3A], [0x3B], [0x3C], [0x3D], [0x3E, 0x12], [0x3F]] =
      [.jrNcE8 0x12, .ldSpD16 0x1234, .ldAtHlDecA, .incSp, .incAtHl, .decAtHl, .ldAtHlD8 0x12, .scf, .jrCE8
        0x12, .addHlSp, .ldAAtHlDec, .decSp, .incA, .decA, .ldAD8 0x12, .ccf].map some := by
  rfl

theorem test_decode_row_4 :
    readAll
      [[0x40], [0x41], [0x42], [0x43], [0x44], [0x45], [0x46], [0x47], [0x48], [0x49], [0x4A], [0x4B], [0x4C],
        [0x4D], [0x4E], [0x4F]] =
      [.ldBB, .ldBC, .ldBD, .ldBE, .ldBH, .ldBL, .ldBAtHl, .ldBA, .ldCB, .ldCC, .ldCD, .ldCE, .ldCH, .ldCL,
        .ldCAtHl, .ldCA].map some := by
  rfl

theorem test_decode_row_5 :
    readAll
      [[0x50], [0x51], [0x52], [0x53], [0x54], [0x55], [0x56], [0x57], [0x58], [0x59], [0x5A], [0x5B], [0x5C],
        [0x5D], [0x5E], [0x5F]] =
      [.ldDB, .ldDC, .ldDD, .ldDE, .ldDH, .ldDL, .ldDAtHl, .ldDA, .ldEB, .ldEC, .ldED, .ldEE, .ldEH, .ldEL,
        .ldEAtHl, .ldEA].map some := by
  rfl

theorem test_decode_row_6 :
    readAll
      [[0x60], [0x61], [0x62], [0x63], [0x64], [0x65], [0x66], [0x67], [0x68], [0x69], [0x6A], [0x6B], [0x6C],
        [0x6D], [0x6E], [0x6F]] =
      [.ldHB, .ldHC, .ldHD, .ldHE, .ldHH, .ldHL, .ldHAtHl, .ldHA, .ldLB, .ldLC, .ldLD, .ldLE, .ldLH, .ldLL,
        .ldLAtHl, .ldLA].map some := by
  rfl

theorem test_decode_row_7 :
    readAll
      [[0x70], [0x71], [0x72], [0x73], [0x74], [0x75], [0x76], [0x77], [0x78], [0x79], [0x7A], [0x7B], [0x7C],
        [0x7D], [0x7E], [0x7F]] =
      [.ldAtHlB, .ldAtHlC, .ldAtHlD, .ldAtHlE, .ldAtHlH, .ldAtHlL, .halt, .ldAtHlA, .ldAB, .ldAC, .ldAD,
        .ldAE, .ldAH, .ldAL, .ldAAtHl, .ldAA].map some := by
  rfl

theorem test_decode_row_8 :
    readAll
      [[0x80], [0x81], [0x82], [0x83], [0x84], [0x85], [0x86], [0x87], [0x88], [0x89], [0x8A], [0x8B], [0x8C],
        [0x8D], [0x8E], [0x8F]] =
      [.addAB, .addAC, .addAD, .addAE, .addAH, .addAL, .addAAtHl, .addAA, .adcAB, .adcAC, .adcAD, .adcAE,
        .adcAH, .adcAL, .adcAAtHl, .adcAA].map some := by
  rfl

theorem test_decode_row_9 :
    readAll
      [[0x90], [0x91], [0x92], [0x93], [0x94], [0x95], [0x96], [0x97], [0x98], [0x99], [0x9A], [0x9B], [0x9C],
        [0x9D], [0x9E], [0x9F]] =
      [.subB, .subC, .subD, .subE, .subH, .subL, .subAtHl, .subA, .sbcAB, .sbcAC, .sbcAD, .sbcAE, .sbcAH,
        .sbcAL, .sbcAAtHl, .sbcAA].map some := by
  rfl

theorem test_decode_row_A :
    readAll
      [[0xA0], [0xA1], [0xA2], [0xA3], [0xA4], [0xA5], [0xA6], [0xA7], [0xA8], [0xA9], [0xAA], [0xAB], [0xAC],
        [0xAD], [0xAE], [0xAF]] =
      [.andB, .andC, .andD, .andE, .andH, .andL, .andAtHl, .andA, .xorB, .xorC, .xorD, .xorE, .xorH, .xorL,
        .xorAtHl, .xorA].map some := by
  rfl

theorem test_decode_row_B :
    readAll
      [[0xB0], [0xB1], [0xB2], [0xB3], [0xB4], [0xB5], [0xB6], [0xB7], [0xB8], [0xB9], [0xBA], [0xBB], [0xBC],
        [0xBD], [0xBE], [0xBF]] =
      [.orB, .orC, .orD, .orE, .orH, .orL, .orAtHl, .orA, .cpB, .cpC, .cpD, .cpE, .cpH, .cpL, .cpAtHl, .cpA].map some := by
  rfl

theorem test_decode_row_C :
    readAll
      [[0xC0], [0xC1], [0xC2, 0x34, 0x12], [0xC3, 0x34, 0x12], [0xC4, 0x34, 0x12], [0xC5], [0xC6, 0x12],
        [0xC7], [0xC8], [0xC9], [0xCA, 0x34, 0x12], [0xCB, 0x12], [0xCC, 0x34, 0x12], [0xCD, 0x34, 0x12],
        [0xCE, 0x12], [0xCF]] =
      [.retNz, .popBc, .jpNzA16 0x1234, .jpA16 0x1234, .callNzA16 0x1234, .pushBc, .addAD8 0x12, .rst00,
        .retZ, .ret, .jpZA16 0x1234, .rlD, .callZA16 0x1234, .callA16 0x1234, .adcAD8 0x12, .rst08].map some := by
  rfl

theorem test_decode_row_D :
    readAll
      [[0xD0], [0xD1], [0xD2, 0x34, 0x12], [0xD3], [0xD4, 0x34, 0x12], [0xD5], [0xD6, 0x12], [0xD7], [0xD8],
        [0xD9], [0xDA, 0x34, 0x12], [0xDB], [0xDC, 0x34, 0x12], [0xDD], [0xDE, 0x12], [0xDF]] =
      [.retNc, .popDe, .jpNcA16 0x1234, .unknownD3, .callNcA16 0x1234, .pushDe, .subD8 0x12, .rst10, .retC,
        .reti, .jpCA16 0x1234, .unknownDB, .callCA16 0x1234, .unknownDD, .sbcAD8 0x12, .rst18].map some := by
  rfl

theorem test_decode_row_E :
    readAll
      [[0xE0, 0x12], [0xE1], [0xE2], [0xE3], [0xE4], [0xE5], [0xE6, 0x12], [0xE7], [0xE8, 0x12], [0xE9],
        [0xEA, 0x34, 0x12], [0xEB], [0xEC], [0xED], [0xEE, 0x12], [0xEF]] =
      [.ldhAtA8A 0x12, .popHl, .ldAtCA, .unknownE3, .unknownE4, .pushHl, .andD8 0x12, .rst20, .addSpE8 0x12,
        .jpHl, .ldAtA16A 0x1234, .unknownEB, .unknownEC, .unknownED, .xorD8 0x12, .rst28].map some := by
  rfl

theorem test_decode_row_F :
    readAll
      [[0xF0, 0x12], [0xF1], [0xF2], [0xF3], [0xF4], [0xF5], [0xF6, 0x12], [0xF7], [0xF8, 0x12], [0xF9],
        [0xFA, 0x34, 0x12], [0xFB], [0xFC], [0xFD], [0xFE, 0x12], [0xFF]] =
      [.ldhAAtA8 0x12, .popAf, .ldAAtC, .di, .unknownF4, .pushAf, .orD8 0x12, .rst30, .ldHlSpE8 0x12, .ldSpHl,
        .ldAAtA16 0x1234, .ei, .unknownFC, .unknownFD, .cpD8 0x12, .rst38].map some := by
  rfl

theorem test_decode_cb_row_0 :
    readAll
      [[0xCB, 0x00], [0xCB, 0x01], [0xCB, 0x02], [0xCB, 0x03], [0xCB, 0x04], [0xCB, 0x05], [0xCB, 0x06],
        [0xCB, 0x07], [0xCB, 0x08], [0xCB, 0x09], [0xCB, 0x0A], [0xCB, 0x0B], [0xCB, 0x0C], [0xCB, 0x0D],
        [0xCB, 0x0E], [0xCB, 0x0F]] =
      [.rlcB, .rlcC, .rlcD, .rlcE, .rlcH, .rlcL, .rlcAtHl, .rlcA, .rrcB, .rrcC, .rrcD, .rrcE, .rrcH, .rrcL,
        .rrcAtHl, .rrcA].map some := by
  rfl

theorem test_decode_cb_row_1 :
    readAll
      [[0xCB, 0x10], [0xCB, 0x11], [0xCB, 0x12], [0xCB, 0x13], [0xCB, 0x14], [0xCB, 0x15], [0xCB, 0x16],
        [0xCB, 0x17], [0xCB, 0x18], [0xCB, 0x19], [0xCB, 0x1A], [0xCB, 0x1B], [0xCB, 0x1C], [0xCB, 0x1D],
        [0xCB, 0x1E], [0xCB, 0x1F]] =
      [.rlB, .rlC, .rlD, .rlE, .rlH, .rlL, .rlAtHl, .rlA, .rrB, .rrC, .rrD, .rrE, .rrH, .rrL, .rrAtHl, .rrA].map some := by
  rfl

theorem test_decode_cb_row_2 :
    readAll
      [[0xCB, 0x20], [0xCB, 0x21], [0xCB, 0x22], [0xCB, 0x23], [0xCB, 0x24], [0xCB, 0x25], [0xCB, 0x26],
        [0xCB, 0x27], [0xCB, 0x28], [0xCB, 0x29], [0xCB, 0x2A], [0xCB, 0x2B], [0xCB, 0x2C], [0xCB, 0x2D],
        [0xCB, 0x2E], [0xCB, 0x2F]] =
      [.slaB, .slaC, .slaD, .slaE, .slaH, .slaL, .slaAtHl, .slaA, .sraB, .sraC, .sraD, .sraE, .sraH, .sraL,
        .sraAtHl, .sraA].map some := by
  rfl

theorem test_decode_cb_row_3 :
    readAll
      [[0xCB, 0x30], [0xCB, 0x31], [0xCB, 0x32], [0xCB, 0x33], [0xCB, 0x34], [0xCB, 0x35], [0xCB, 0x36],
        [0xCB, 0x37], [0xCB, 0x38], [0xCB, 0x39], [0xCB, 0x3A], [0xCB, 0x3B], [0xCB, 0x3C], [0xCB, 0x3D],
        [0xCB, 0x3E], [0xCB, 0x3F]] =
      [.swapB, .swapC, .swapD, .swapE, .swapH, .swapL, .swapAtHl, .swapA, .srlB, .srlC, .srlD, .srlE, .srlH,
        .srlL, .srlAtHl, .srlA].map some := by
  rfl

theorem test_decode_cb_row_4 :
    readAll
      [[0xCB, 0x40], [0xCB, 0x41], [0xCB, 0x42], [0xCB, 0x43], [0xCB, 0x44], [0xCB, 0x45], [0xCB, 0x46],
        [0xCB, 0x47], [0xCB, 0x48], [0xCB, 0x49], [0xCB, 0x4A], [0xCB, 0x4B], [0xCB, 0x4C], [0xCB, 0x4D],
        [0xCB, 0x4E], [0xCB, 0x4F]] =
      [.bit0B, .bit0C, .bit0D, .bit0E, .bit0H, .bit0L, .bit0AtHl, .bit0A, .bit1B, .bit1C, .bit1D, .bit1E,
        .bit1H, .bit1L, .bit1AtHl, .bit1A].map some := by
  rfl

theorem test_decode_cb_row_5 :
    readAll
      [[0xCB, 0x50], [0xCB, 0x51], [0xCB, 0x52], [0xCB, 0x53], [0xCB, 0x54], [0xCB, 0x55], [0xCB, 0x56],
        [0xCB, 0x57], [0xCB, 0x58], [0xCB, 0x59], [0xCB, 0x5A], [0xCB, 0x5B], [0xCB, 0x5C], [0xCB, 0x5D],
        [0xCB, 0x5E], [0xCB, 0x5F]] =
      [.bit2B, .bit2C, .bit2D, .bit2E, .bit2H, .bit2L, .bit2AtHl, .bit2A, .bit3B, .bit3C, .bit3D, .bit3E,
        .bit3H, .bit3L, .bit3AtHl, .bit3A].map some := by
  rfl

theorem test_decode_cb_row_6 :
    readAll
      [[0xCB, 0x60], [0xCB, 0x61], [0xCB, 0x62], [0xCB, 0x63], [0xCB, 0x64], [0xCB, 0x65], [0xCB, 0x66],
        [0xCB, 0x67], [0xCB, 0x68], [0xCB, 0x69], [0xCB, 0x6A], [0xCB, 0x6B], [0xCB, 0x6C], [0xCB, 0x6D],
        [0xCB, 0x6E], [0xCB, 0x6F]] =
      [.bit4B, .bit4C, .bit4D, .bit4E, .bit4H, .bit4L, .bit4AtHl, .bit4A, .bit5B, .bit5C, .bit5D, .bit5E,
        .bit5H, .bit5L, .bit5AtHl, .bit5A].map some := by
  rfl

theorem test_decode_cb_row_7 :
    readAll
      [[0xCB, 0x70], [0xCB, 0x71], [0xCB, 0x72], [0xCB, 0x73], [0xCB, 0x74], [0xCB, 0x75], [0xCB, 0x76],
        [0xCB, 0x77], [0xCB, 0x78], [0xCB, 0x79], [0xCB, 0x7A], [0xCB, 0x7B], [0xCB, 0x7C], [0xCB, 0x7D],
        [0xCB, 0x7E], [0xCB, 0x7F]] =
      [.bit6B, .bit6C, .bit6D, .bit6E, .bit6H, .bit6L, .bit6AtHl, .bit6A, .bit7B, .bit7C, .bit7D, .bit7E,
        .bit7H, .bit7L, .bit7AtHl, .bit7A].map some := by
  rfl

theorem test_decode_cb_row_8 :
    readAll
      [[0xCB, 0x80], [0xCB, 0x81], [0xCB, 0x82], [0xCB, 0x83], [0xCB, 0x84], [0xCB, 0x85], [0xCB, 0x86],
        [0xCB, 0x87], [0xCB, 0x88], [0xCB, 0x89], [0xCB, 0x8A], [0xCB, 0x8B], [0xCB, 0x8C], [0xCB, 0x8D],
        [0xCB, 0x8E], [0xCB, 0x8F]] =
      [.res0B, .res0C, .res0D, .res0E, .res0H, .res0L, .res0AtHl, .res0A, .res1B, .res1C, .res1D, .res1E,
        .res1H, .res1L, .res1AtHl, .res1A].map some := by
  rfl

theorem test_decode_cb_row_9 :
    readAll
      [[0xCB, 0x90], [0xCB, 0x91], [0xCB, 0x92], [0xCB, 0x93], [0xCB, 0x94], [0xCB, 0x95], [0xCB, 0x96],
        [0xCB, 0x97], [0xCB, 0x98], [0xCB, 0x99], [0xCB, 0x9A], [0xCB, 0x9B], [0xCB, 0x9C], [0xCB, 0x9D],
        [0xCB, 0x9E], [0xCB, 0x9F]] =
      [.res2B, .res2C, .res2D, .res2E, .res2H, .res2L, .res2AtHl, .res2A, .res3B, .res3C, .res3D, .res3E,
        .res3H, .res3L, .res3AtHl, .res3A].map some := by
  rfl

theorem test_decode_cb_row_A :
    readAll
      [[0xCB, 0xA0], [0xCB, 0xA1], [0xCB, 0xA2], [0xCB, 0xA3], [0xCB, 0xA4], [0xCB, 0xA5], [0xCB, 0xA6],
        [0xCB, 0xA7], [0xCB, 0xA8], [0xCB, 0xA9], [0xCB, 0xAA], [0xCB, 0xAB], [0xCB, 0xAC], [0xCB, 0xAD],
        [0xCB, 0xAE], [0xCB, 0xAF]] =
      [.res4B, .res4C, .res4D, .res4E, .res4H, .res4L, .res4AtHl, .res4A, .res5B, .res5C, .res5D, .res5E,
        .res5H, .res5L, .res5AtHl, .res5A].map some := by
  rfl

theorem test_decode_cb_row_B :
    readAll
      [[0xCB, 0xB0], [0xCB, 0xB1], [0xCB, 0xB2], [0xCB, 0xB3], [0xCB, 0xB4], [0xCB, 0xB5], [0xCB, 0xB6],
        [0xCB, 0xB7], [0xCB, 0xB8], [0xCB, 0xB9], [0xCB, 0xBA], [0xCB, 0xBB], [0xCB, 0xBC], [0xCB, 0xBD],
        [0xCB, 0xBE], [0xCB, 0xBF]] =
      [.res6B, .res6C, .res6D, .res6E, .res6H, .res6L, .res6AtHl, .res6A, .res7B, .res7C, .res7D, .res7E,
        .res7H, .res7L, .res7AtHl, .res7A].map some := by
  rfl

theorem test_decode_cb_row_C :
    readAll
      [[0xCB, 0xC0], [0xCB, 0xC1], [0xCB, 0xC2], [0xCB, 0xC3], [0xCB, 0xC4], [0xCB, 0xC5], [0xCB, 0xC6],
        [0xCB, 0xC7], [0xCB, 0xC8], [0xCB, 0xC9], [0xCB, 0xCA], [0xCB, 0xCB], [0xCB, 0xCC], [0xCB, 0xCD],
        [0xCB, 0xCE], [0xCB, 0xCF]] =
      [.set0B, .set0C, .set0D, .set0E, .set0H, .set0L, .set0AtHl, .set0A, .set1B, .set1C, .set1D, .set1E,
        .set1H, .set1L, .set1AtHl, .set1A].map some := by
  rfl

theorem test_decode_cb_row_D :
    readAll
      [[0xCB, 0xD0], [0xCB, 0xD1], [0xCB, 0xD2], [0xCB, 0xD3], [0xCB, 0xD4], [0xCB, 0xD5], [0xCB, 0xD6],
        [0xCB, 0xD7], [0xCB, 0xD8], [0xCB, 0xD9], [0xCB, 0xDA], [0xCB, 0xDB], [0xCB, 0xDC], [0xCB, 0xDD],
        [0xCB, 0xDE], [0xCB, 0xDF]] =
      [.set2B, .set2C, .set2D, .set2E, .set2H, .set2L, .set2AtHl, .set2A, .set3B, .set3C, .set3D, .set3E,
        .set3H, .set3L, .set3AtHl, .set3A].map some := by
  rfl

theorem test_decode_cb_row_E :
    readAll
      [[0xCB, 0xE0], [0xCB, 0xE1], [0xCB, 0xE2], [0xCB, 0xE3], [0xCB, 0xE4], [0xCB, 0xE5], [0xCB, 0xE6],
        [0xCB, 0xE7], [0xCB, 0xE8], [0xCB, 0xE9], [0xCB, 0xEA], [0xCB, 0xEB], [0xCB, 0xEC], [0xCB, 0xED],
        [0xCB, 0xEE], [0xCB, 0xEF]] =
      [.set4B, .set4C, .set4D, .set4E, .set4H, .set4L, .set4AtHl, .set4A, .set5B, .set5C, .set5D, .set5E,
        .set5H, .set5L, .set5AtHl, .set5A].map some := by
  rfl

theorem test_decode_cb_row_F :
    readAll
      [[0xCB, 0xF0], [0xCB, 0xF1], [0xCB, 0xF2], [0xCB, 0xF3], [0xCB, 0xF4], [0xCB, 0xF5], [0xCB, 0xF6],
        [0xCB, 0xF7], [0xCB, 0xF8], [0xCB, 0xF9], [0xCB, 0xFA], [0xCB, 0xFB], [0xCB, 0xFC], [0xCB, 0xFD],
        [0xCB, 0xFE], [0xCB, 0xFF]] =
      [.set6B, .set6C, .set6D, .set6E, .set6H, .set6L, .set6AtHl, .set6A, .set7B, .set7C, .set7D, .set7E,
        .set7H, .set7L, .set7AtHl, .set7A].map some := by
  rfl

/-- Words written bit by bit (30_encoding.md R78 to R85): LD B,C is 01 000 001, ADD HL,DE is 00 01 1001, PUSH AF is 11 11 0101,
JR NC is 001 10 000, CP (HL) is 10 111 110, RST 0x28 is 11 101 111, SET 5,(HL) is 11 101 110 after 0xCB. -/
theorem test_decode_bit_patterns :
    readAll [[0b01000001], [0b00011001], [0b11110101], [0b00110000, 0b11111110], [0b10111110], [0b11101111],
        [0b11001011, 0b11101110]] =
      [.ldBC, .addHlDe, .pushAf, .jrNcE8 0xFE, .cpAtHl, .rst28, .set5AtHl].map some := by
  rfl

/-- Bytes that end inside an operand, and no byte, are refused by name (30_encoding.md R74). -/
theorem test_decode_refuses_truncated :
    decode [0xC3, 0x00] = .error (.truncated 0xC3) ∧ decode [0xCB] = .error (.truncated 0xCB) ∧ decode [] = .error .noBytes := by
  refine ⟨rfl, rfl, rfl⟩

/-- A table word of one byte, of a CB row (first byte in bits 15:8, R87), and of a row whose operand has no bits. -/
theorem test_decode_table_words :
    decodeTableWord 8 0x76 = some .halt ∧ decodeTableWord 16 0xCB2C = some .sraH ∧
      decodeTableWord 8 0x01 = some (.ldBcD16 0x0000) := by
  refine ⟨rfl, rfl, rfl⟩

/-! ### Single steps, from the vectors of 95_test_vectors.md -/

/-- The vectors' start state: power-up with pc at 0x0200. -/
def base : State := { State.powerUp with pc := 0x0200 }

/-- The state after one iteration that runs these bytes at pc. -/
def after (s : State) (bytes : List Byte) : State :=
  match step (s.readyToRun bytes) with
  | .next t => t
  | _ => s

/-- V-LD-1. -/
theorem test_ld_a_a :
    let u := after { base with af := 0x42B0 } [0x7F]
    u.af = 0x42B0 ∧ u.pc = 0x0201 := by
  decide

/-- V-LD-2. -/
theorem test_ld_a_hl :
    let u := after { base with hl := 0xC000, mem := [(0xC000, 0x99)] } [0x7E]
    u.readReg .a = 0x99 ∧ u.bus = [.read 0x0200, .read 0xC000] := by
  decide

/-- V-LD-3. -/
theorem test_ld_hl_h :
    let u := after { base with hl := 0xC123 } [0x74]
    u.peek 0xC123 = 0xC1 := by
  decide

/-- V-LD-4. -/
theorem test_ld_hl_d8 :
    let u := after { base with hl := 0xC000 } [0x36, 0x5A]
    u.peek 0xC000 = 0x5A ∧ u.pc = 0x0202 := by
  decide

/-- V-LD-5. -/
theorem test_ld_over_own_opcode :
    let u := after { base with hl := 0x0200, af := 0x00B0 } [0x77]
    u.peek 0x0200 = 0x00 ∧ u.pc = 0x0201 := by
  decide

/-- V-LD-6. -/
theorem test_ld_a_hlinc_wraps :
    let u := after { base with hl := 0xFFFF, mem := [(0xFFFF, 0x77)] } [0x2A]
    u.readReg .a = 0x77 ∧ u.hl = 0x0000 := by
  decide

/-- V-LD-7. -/
theorem test_ld_hlinc_a_wraps :
    let u := after { base with hl := 0xFFFF, af := 0x99B0 } [0x22]
    u.peek 0xFFFF = 0x99 ∧ u.hl = 0x0000 := by
  decide

/-- V-LD-8. -/
theorem test_ld_hldec_a :
    let u := after { base with hl := 0xDFFF, af := 0x00B0 } [0x32]
    u.peek 0xDFFF = 0x00 ∧ u.hl = 0xDFFE := by
  decide

/-- V-LD-9. -/
theorem test_ld_c_a_unmapped :
    let u := after { base with bc := 0x00FF, af := 0x1FB0 } [0xE2]
    u.peek 0xFFFF = 0x1F ∧ u.ieReg = 0x00 := by
  decide

/-- V-LD-10. -/
theorem test_ld_c_a_mapped :
    let u := after { base with bc := 0x00FF, af := 0x1FB0, params := { Params.defaults with ieIfMapped := true } } [0xE2]
    u.ieReg = 0x1F ∧ u.mem.read 0xFFFF = 0x00 := by
  decide

/-- V-LD-11. -/
theorem test_ldh_a_a8_if :
    let u := after { base with ifReg := 0x01, params := { Params.defaults with ieIfMapped := true } } [0xF0, 0x0F]
    u.readReg .a = 0xE1 := by
  decide

/-- V-LD-12. -/
theorem test_ld_a_a16_wraps :
    let u := after { base with pc := 0xFFFE, mem := [(0xC000, 0x5C)] } [0xFA, 0x00, 0xC0]
    u.readReg .a = 0x5C ∧ u.pc = 0x0001 ∧ u.bus = [.read 0xFFFE, .read 0xFFFF, .read 0x0000, .read 0xC000] := by
  decide

/-- V-LD-13. -/
theorem test_ld_sp_d16 :
    let u := after base [0x31, 0x00, 0xD0]
    u.sp = 0xD000 ∧ u.pc = 0x0203 := by
  decide

/-- V-LD-14. -/
theorem test_ld_a16_sp_top :
    let u := after { base with sp := 0x1234 } [0x08, 0xFF, 0xFF]
    u.bus = [.read 0x0200, .read 0x0201, .read 0x0202, .write .short 0xFFFF 0x34, .write .short 0x0000 0x12] := by
  decide

/-- V-LD-15. -/
theorem test_ld_a16_sp :
    let u := after { base with sp := 0xFFF8 } [0x08, 0x00, 0xC1]
    u.peek 0xC100 = 0xF8 ∧ u.peek 0xC101 = 0xFF := by
  decide

/-- V-LD-16. -/
theorem test_push_bc :
    let u := after { base with bc := 0x1234 } [0xC5]
    u.sp = 0xFFFC ∧ u.peek 0xFFFC = 0x34 ∧ u.peek 0xFFFD = 0x12 := by
  decide

/-- V-LD-17. -/
theorem test_push_af :
    let u := after { base with af := 0x12F0 } [0xF5]
    u.sp = 0xFFFC ∧ u.peek 0xFFFC = 0xF0 ∧ u.peek 0xFFFD = 0x12 := by
  decide

/-- V-LD-18. -/
theorem test_push_de_wraps :
    let u := after { base with de := 0xBEEF, sp := 0x0001 } [0xD5]
    u.sp = 0xFFFF ∧ u.bus = [.read 0x0200, .write .short 0xFFFF 0xEF, .write .short 0x0000 0xBE] := by
  decide

/-- V-LD-19. -/
theorem test_pop_bc_wraps :
    let u := after { base with sp := 0xFFFF, mem := [(0x0000, 0x22), (0xFFFF, 0x11)] } [0xC1]
    u.bc = 0x2211 ∧ u.sp = 0x0001 ∧ u.bus = [.read 0x0200, .read 0xFFFF, .read 0x0000] := by
  decide

/-- V-LD-POPAF. -/
theorem test_pop_af_masks :
    let u := after { base with sp := 0xC000, mem := [(0xC000, 0x3F), (0xC001, 0xAB)] } [0xF1]
    u.af = 0xAB30 ∧ u.sp = 0xC002 := by
  decide

/-- V-ALU-1. -/
theorem test_add_wraps :
    let u := after { base with af := 0xFF00 } [0xC6, 0x01]
    u.readReg .a = 0x00 ∧ u.regF = 0xB0 := by
  decide

/-- V-ALU-2. -/
theorem test_adc_carry_in_only :
    let u := after { base with af := 0xFF10 } [0xCE, 0x00]
    u.readReg .a = 0x00 ∧ u.regF = 0xB0 := by
  decide

/-- V-ALU-3. -/
theorem test_adc_half :
    let u := after { base with af := 0x0F10 } [0xCE, 0x00]
    u.readReg .a = 0x10 ∧ u.regF = 0x20 := by
  decide

/-- V-ALU-4. -/
theorem test_adc_a_e :
    let u := after { base with af := 0xE110, de := 0x000F } [0x8B]
    u.readReg .a = 0xF1 ∧ u.regF = 0x20 := by
  decide

/-- V-ALU-5. -/
theorem test_sub_borrows :
    let u := after { base with af := 0x0000 } [0xD6, 0x01]
    u.readReg .a = 0xFF ∧ u.regF = 0x70 := by
  decide

/-- V-ALU-6. -/
theorem test_sub_a :
    let u := after { base with af := 0x5A10 } [0x97]
    u.readReg .a = 0x00 ∧ u.regF = 0xC0 := by
  decide

/-- V-ALU-7. -/
theorem test_sbc_all_ones :
    let u := after { base with af := 0x0010 } [0xDE, 0xFF]
    u.readReg .a = 0x00 ∧ u.regF = 0xF0 := by
  decide

/-- V-ALU-8. -/
theorem test_sbc_half :
    let u := after { base with af := 0x1010 } [0xDE, 0x0F]
    u.readReg .a = 0x00 ∧ u.regF = 0xE0 := by
  decide

/-- V-ALU-9. -/
theorem test_sbc_a_h :
    let u := after { base with af := 0x3B10, hl := 0x2A4D } [0x9C]
    u.readReg .a = 0x10 ∧ u.regF = 0x40 := by
  decide

/-- V-ALU-10. -/
theorem test_and_l_sets_h :
    let u := after { base with af := 0x5A00, hl := 0x013F } [0xA5]
    u.readReg .a = 0x1A ∧ u.regF = 0x20 := by
  decide

/-- V-ALU-11. -/
theorem test_xor_b_clears_c :
    let u := after { base with af := 0x0F10, bc := 0xF000 } [0xA8]
    u.readReg .a = 0xFF ∧ u.regF = 0x00 := by
  decide

/-- V-ALU-12. -/
theorem test_or_hl :
    let u := after { base with af := 0x0100, hl := 0xC000, mem := [(0xC000, 0x80)] } [0xB6]
    u.readReg .a = 0x81 ∧ u.regF = 0x00 := by
  decide

/-- V-ALU-13. -/
theorem test_cp_a :
    let u := after { base with af := 0x5A00 } [0xBF]
    u.readReg .a = 0x5A ∧ u.regF = 0xC0 := by
  decide

/-- V-ALU-14. -/
theorem test_cp_d8 :
    let u := after { base with af := 0x3C00 } [0xFE, 0x40]
    u.readReg .a = 0x3C ∧ u.regF = 0x50 := by
  decide

/-- V-ALU-15. -/
theorem test_inc_a_half :
    let u := after { base with af := 0x7F00 } [0x3C]
    u.readReg .a = 0x80 ∧ u.regF = 0x20 := by
  decide

/-- V-ALU-16. -/
theorem test_dec_b_keeps_c :
    let u := after { base with bc := 0x1013, af := 0x0110 } [0x05]
    u.readReg .b = 0x0F ∧ u.regF = 0x70 := by
  decide

/-- V-ALU-17. -/
theorem test_inc_at_hl :
    let u := after { base with hl := 0xC000, af := 0x0110, mem := [(0xC000, 0x0F)] } [0x34]
    u.peek 0xC000 = 0x10 ∧ u.regF = 0x30 := by
  decide

/-- V-ALU-18. -/
theorem test_dec_at_hl :
    let u := after { base with hl := 0xC000, af := 0x0100 } [0x35]
    u.peek 0xC000 = 0xFF ∧ u.regF = 0x60 := by
  decide

/-- V-DAA-1. -/
theorem test_daa_high_and_low :
    let u := after { base with af := 0x9A00 } [0x27]
    u.readReg .a = 0x00 ∧ u.regF = 0x90 := by
  decide

/-- V-DAA-6. -/
theorem test_daa_subtract :
    let u := after { base with af := 0x0070 } [0x27]
    u.readReg .a = 0x9A ∧ u.regF = 0x50 := by
  decide

/-- V-ALU-19. -/
theorem test_cpl_keeps_z :
    let u := after { base with af := 0xFF90 } [0x2F]
    u.readReg .a = 0x00 ∧ u.regF = 0xF0 := by
  decide

/-- V-ALU-20. -/
theorem test_scf_keeps_z :
    let u := after { base with af := 0x4280 } [0x37]
    u.readReg .a = 0x42 ∧ u.regF = 0x90 := by
  decide

/-- V-ALU-22. -/
theorem test_ccf_clears :
    let u := after { base with af := 0x4230 } [0x3F]
    u.readReg .a = 0x42 ∧ u.regF = 0x00 := by
  decide

/-- V-A16-1. -/
theorem test_add_hl_hl :
    let u := after { base with hl := 0x8000, af := 0x0180 } [0x29]
    u.hl = 0x0000 ∧ u.regF = 0x90 := by
  decide

/-- V-A16-2. -/
theorem test_add_hl_sp :
    let u := after { base with hl := 0x0FFF, sp := 0x0001, af := 0x0100 } [0x39]
    u.hl = 0x1000 ∧ u.regF = 0x20 := by
  decide

/-- V-A16-3. -/
theorem test_add_hl_de :
    let u := after { base with hl := 0xFFFF, de := 0x0001, af := 0x0100 } [0x19]
    u.hl = 0x0000 ∧ u.regF = 0x30 := by
  decide

/-- V-A16-5. -/
theorem test_inc_sp_wraps :
    let u := after { base with sp := 0xFFFF } [0x33]
    u.sp = 0x0000 ∧ u.regF = 0xB0 := by
  decide

/-- V-A16-6. -/
theorem test_dec_bc_wraps :
    let u := after { base with bc := 0x0000, af := 0x0100 } [0x0B]
    u.bc = 0xFFFF ∧ u.regF = 0x00 := by
  decide

/-- V-A16-7. -/
theorem test_add_sp_negative :
    let u := after { base with sp := 0x0100 } [0xE8, 0x80]
    u.sp = 0x0080 ∧ u.regF = 0x00 := by
  decide

/-- V-A16-9. -/
theorem test_add_sp_zero_result :
    let u := after { base with sp := 0x0001 } [0xE8, 0xFF]
    u.sp = 0x0000 ∧ u.regF = 0x30 := by
  decide

/-- V-A16-11. -/
theorem test_ld_hl_sp_e8 :
    let u := after { base with sp := 0x0000, af := 0x01F0 } [0xF8, 0xFF]
    u.hl = 0xFFFF ∧ u.sp = 0x0000 ∧ u.regF = 0x00 := by
  decide

/-- V-ROT-1. -/
theorem test_rlca_clears_z :
    let u := after { base with af := 0x0080 } [0x07]
    u.readReg .a = 0x00 ∧ u.regF = 0x00 := by
  decide

/-- V-ROT-2. -/
theorem test_rlc_a_sets_z :
    let u := after { base with af := 0x0000 } [0xCB, 0x07]
    u.readReg .a = 0x00 ∧ u.regF = 0x80 := by
  decide

/-- V-ROT-4. -/
theorem test_rrca :
    let u := after { base with af := 0x3B00 } [0x0F]
    u.readReg .a = 0x9D ∧ u.regF = 0x10 := by
  decide

/-- V-ROT-6. -/
theorem test_rla :
    let u := after { base with af := 0x9510 } [0x17]
    u.readReg .a = 0x2B ∧ u.regF = 0x10 := by
  decide

/-- V-ROT-7. -/
theorem test_rra :
    let u := after { base with af := 0x8100 } [0x1F]
    u.readReg .a = 0x40 ∧ u.regF = 0x10 := by
  decide

/-- V-ROT-8. -/
theorem test_rlc_at_hl :
    let u := after { base with hl := 0xC000, mem := [(0xC000, 0x80)] } [0xCB, 0x06]
    u.peek 0xC000 = 0x01 ∧ u.regF = 0x10 := by
  decide

/-- V-ROT-9. -/
theorem test_rr_at_hl :
    let u := after { base with hl := 0xC000, af := 0x0110, mem := [(0xC000, 0x01)] } [0xCB, 0x1E]
    u.regF = 0x10 ∧ u.bus = [.read 0x0200, .read 0x0201, .read 0xC000, .write .byte 0xC000 0x80] := by
  decide

/-- V-ROT-10. -/
theorem test_rl_l :
    let u := after { base with hl := 0x0180, af := 0x0100 } [0xCB, 0x15]
    u.readReg .l = 0x00 ∧ u.regF = 0x90 := by
  decide

/-- V-ROT-11. -/
theorem test_sla_at_hl :
    let u := after { base with hl := 0xC000, mem := [(0xC000, 0xFF)] } [0xCB, 0x26]
    u.peek 0xC000 = 0xFE ∧ u.regF = 0x10 := by
  decide

/-- V-ROT-12. -/
theorem test_sra_a :
    let u := after { base with af := 0x8100 } [0xCB, 0x2F]
    u.readReg .a = 0xC0 ∧ u.regF = 0x10 := by
  decide

/-- V-ROT-15. -/
theorem test_swap_a :
    let u := after { base with af := 0xF070 } [0xCB, 0x37]
    u.readReg .a = 0x0F ∧ u.regF = 0x00 := by
  decide

/-- V-ROT-16. -/
theorem test_srl_a :
    let u := after { base with af := 0x0100 } [0xCB, 0x3F]
    u.readReg .a = 0x00 ∧ u.regF = 0x90 := by
  decide

/-- 43_rotate_shift.md R179: bit 0 goes to bit 7 and C. -/
theorem test_rrc_b :
    let u := after { base with bc := 0x0113 } [0xCB, 0x08]
    u.readReg .b = 0x80 ∧ u.regF = 0x10 := by
  decide

/-- V-BIT-1. -/
theorem test_bit_at_hl :
    let u := after { base with hl := 0xC000, af := 0x0110, mem := [(0xC000, 0x08)] } [0xCB, 0x5E]
    u.regF = 0x30 ∧ u.bus = [.read 0x0200, .read 0x0201, .read 0xC000] := by
  decide

/-- V-BIT-3. -/
theorem test_bit_7_a :
    let u := after { base with af := 0x8000 } [0xCB, 0x7F]
    u.regF = 0x20 := by
  decide

/-- V-BIT-4. -/
theorem test_res_at_hl :
    let u := after { base with hl := 0xC000, af := 0x01F0, mem := [(0xC000, 0xFF)] } [0xCB, 0xBE]
    u.peek 0xC000 = 0x7F ∧ u.regF = 0xF0 := by
  decide

/-- V-BIT-5. -/
theorem test_set_0_a :
    let u := after { base with af := 0x0000 } [0xCB, 0xC7]
    u.af = 0x0100 := by
  decide

/-- V-CF-1. -/
theorem test_jp_a16 :
    let u := after { base with pc := 0x0100 } [0xC3, 0x50, 0x01]
    u.pc = 0x0150 := by
  decide

/-- V-CF-2. -/
theorem test_jp_nc_not_taken :
    let u := after { base with af := 0x0110 } [0xD2, 0x00, 0x40]
    u.pc = 0x0203 ∧ u.bus = [.read 0x0200, .read 0x0201, .read 0x0202] := by
  decide

/-- V-CF-3. -/
theorem test_jp_nz :
    let u := after { base with af := 0x0170 } [0xC2, 0x00, 0x30]
    u.pc = 0x3000 := by
  decide

/-- V-CF-4. -/
theorem test_jp_hl :
    let u := after { base with hl := 0x4000 } [0xE9]
    u.pc = 0x4000 ∧ u.bus = [.read 0x0200] := by
  decide

/-- V-CF-6. -/
theorem test_jr_back :
    let u := after { base with pc := 0x0100 } [0x18, 0xFB]
    u.pc = 0x00FD := by
  decide

/-- V-CF-10. -/
theorem test_jr_wraps :
    let u := after { base with pc := 0xFFFF } [0x18, 0x02]
    u.pc = 0x0003 ∧ u.bus = [.read 0xFFFF, .read 0x0000] := by
  decide

/-- V-CF-11. -/
theorem test_jr_nz_not_taken :
    let u := after { base with af := 0x0180 } [0x20, 0x10]
    u.pc = 0x0202 ∧ u.bus = [.read 0x0200, .read 0x0201] := by
  decide

/-- V-CF-12. -/
theorem test_jr_nz :
    let u := after { base with pc := 0x0105, af := 0x0100 } [0x20, 0xFB]
    u.pc = 0x0102 := by
  decide

/-- V-CF-13. -/
theorem test_call :
    let u := after { base with pc := 0x0100 } [0xCD, 0x00, 0x02]
    u.sp = 0xFFFC ∧ u.peek 0xFFFC = 0x03 ∧ u.peek 0xFFFD = 0x01 ∧ u.pc = 0x0200 := by
  decide

/-- V-CF-14. -/
theorem test_call_wraps :
    let u := after { base with pc := 0x0100, sp := 0x0001 } [0xCD, 0x00, 0x02]
    u.sp = 0xFFFF ∧ u.peek 0xFFFF = 0x03 ∧ u.peek 0x0000 = 0x01 := by
  decide

/-- V-CF-15. -/
theorem test_call_nz_not_taken :
    let u := after { base with af := 0x0180 } [0xC4, 0x00, 0x40]
    u.pc = 0x0203 ∧ u.sp = 0xFFFE ∧ u.bus = [.read 0x0200, .read 0x0201, .read 0x0202] := by
  decide

/-- V-CF-16. -/
theorem test_call_c :
    let u := after { base with pc := 0x0300, sp := 0xD000, af := 0x0110 } [0xDC, 0x00, 0x40]
    u.sp = 0xCFFE ∧ u.peek 0xCFFE = 0x03 ∧ u.peek 0xCFFF = 0x03 ∧ u.pc = 0x4000 := by
  decide

/-- V-CF-17. -/
theorem test_ret :
    let u := after { base with mem := [(0xFFFE, 0x34), (0xFFFF, 0x12)] } [0xC9]
    u.pc = 0x1234 ∧ u.sp = 0x0000 ∧ u.bus = [.read 0x0200, .read 0xFFFE, .read 0xFFFF] := by
  decide

/-- V-CF-18. -/
theorem test_ret_c_not_taken :
    let u := after { base with sp := 0xFFFC, af := 0x0100 } [0xD8]
    u.pc = 0x0201 ∧ u.sp = 0xFFFC ∧ u.bus = [.read 0x0200] := by
  decide

/-- V-CF-19. -/
theorem test_reti :
    let u := after { base with sp := 0xFFFC, mem := [(0xFFFC, 0x50), (0xFFFD, 0x01)] } [0xD9]
    u.pc = 0x0150 ∧ u.sp = 0xFFFE ∧ u.ime = true ∧ u.eiShadow = false := by
  decide

/-- V-CF-20. -/
theorem test_rst_38 :
    let u := after base [0xFF]
    u.pc = 0x0038 ∧ u.sp = 0xFFFC ∧ u.peek 0xFFFC = 0x01 ∧ u.peek 0xFFFD = 0x02 := by
  decide

/-- V-SYS-1. -/
theorem test_nop :
    let u := after { base with pc := 0x0100 } [0x00]
    u.pc = 0x0101 ∧ u.af = 0x01B0 ∧ u.bc = 0x0013 := by
  decide

/-- V-SYS-2. -/
theorem test_halt :
    let u := after { base with pc := 0x0100 } [0x76]
    u.pc = 0x0101 ∧ u.haltWait = true ∧ u.sched = .running := by
  decide

/-- V-SYS-4, first iteration. -/
theorem test_halt_bug :
    let u := after { base with pc := 0x0100, ieReg := 0x01, ifReg := 0x01, params := { Params.defaults with haltBug := true } } [0x76]
    u.pc = 0x0101 ∧ u.haltRepeat = true ∧ u.haltWait = false := by
  decide

/-- V-SYS-6. -/
theorem test_stop_any_operand :
    let u := after base [0x10, 0xFF]
    u.pc = 0x0202 ∧ u.running = false := by
  decide

/-- V-SYS-7. -/
theorem test_di :
    let u := after { base with ime := true, eiShadow := true } [0xF3]
    u.ime = false ∧ u.eiShadow = false := by
  decide

/-- V-SYS-8. -/
theorem test_ei :
    let u := after base [0xFB]
    u.ime = true ∧ u.eiShadow = true := by
  decide

/-- V-SYS-10. -/
theorem test_unknown :
    let u := after { base with pc := 0x0100 } [0xDD]
    u.fatal = some ⟨0xDD, 0x0100⟩ ∧ u.sched = .halted ∧ u.events = [.error 0xDD 0x0100, .alert 0xDD 0x0100] := by
  decide

/-- V-SYS-11. -/
theorem test_prefix_cb_is_one_instruction :
    let u := after { base with bc := 0x8513 } [0xCB, 0x00]
    u.readReg .b = 0x0B ∧ u.pc = 0x0202 ∧ u.events = [.info "PREFIX CB" 0x0200, .snapshot u.snapshot] := by
  decide

/-! ### Single boundaries and polls of the scheduler -/

/-- A run in progress at the power-up state, memory all NOPs. -/
def inRun : State := { State.powerUp with running := true, sched := .running }

/-- The state after one step. -/
def stepped (s : State) : State :=
  match step s with
  | .next t => t
  | _ => s

/-- V-INT-5, V-INT-6, V-INT-7. -/
theorem test_pollPending :
    { base with ieReg := 0x01, ifReg := 0x01 }.pollPending = none ∧
      { base with ime := true, ieReg := 0x10, ifReg := 0x18 }.pollPending = some 0x0060 ∧
      { base with ime := true, ifReg := 0x1F }.pollPending = none := by
  decide

/-- V-INT-1, boundary 1 and the RETI at the vector. -/
theorem test_dispatch_then_reti :
    let u := stepped { inRun with
      ime := true, ieReg := 0x05, ifReg := 0x05, mem := [(0x0040, 0xD9)],
      params := { Params.defaults with dispatch := .sm83 } }
    u.pc = 0x0100 ∧ u.sp = 0xFFFE ∧ u.ime = true ∧ u.ifReg = 0x04 ∧ u.peek 0xFFFC = 0x00 ∧ u.peek 0xFFFD = 0x01 ∧
      u.events.map (fun e => match e with | .snapshot s => s.pc | .info _ a => a | _ => 0) = [0x0040, 0x0040, 0x0100] := by
  decide

/-- V-INT-2, the boundary after EI: no dispatch, and the NOP executes. -/
theorem test_ei_delay :
    let u := stepped { inRun with
      ime := true, eiShadow := true, ieReg := 0x01, ifReg := 0x01, params := { Params.defaults with dispatch := .sm83 } }
    u.pc = 0x0101 ∧ u.ifReg = 0x01 ∧ u.eiShadow = false ∧ u.sp = 0xFFFE := by
  decide

/-- V-SYS-3, second boundary: the wake does not read IME, and IF stays. -/
theorem test_halt_wakes :
    let u := stepped { inRun with haltWait := true, ieReg := 0x01, ifReg := 0x01, mem := [(0x0100, 0x3C)] }
    u.haltWait = false ∧ u.readReg .a = 0x02 ∧ u.ifReg = 0x01 ∧ u.pc = 0x0101 := by
  decide

/-- P4, evaluations 5 and 7: a halt wait goes on with nothing pending, and ends when P_IRQ gives a request. -/
theorem test_irq_sampled :
    let s := { inRun with haltWait := true, ieReg := 0x01 }
    stepped { s with irqs := [0] } = s ∧ (stepped { s with irqs := [1] }).haltWait = false ∧
      (stepped { s with irqs := [1] }).ifReg = 0x01 := by
  decide

/-- V-SYS-4, second and third iteration: the byte after HALT is executed twice. -/
theorem test_halt_repeat :
    let s := { inRun with haltRepeat := true, mem := [(0x0100, 0x3C)], params := { Params.defaults with haltBug := true } }
    (stepped s).pc = 0x0100 ∧ (stepped s).haltRepeat = false ∧ (stepped s).readReg .a = 0x02 := by
  decide

/-- V-SYS-9, first iteration. -/
theorem test_unimplemented_warns :
    let u := stepped { inRun with mem := [(0x0100, 0x3C)], params := { Params.defaults with unimplemented := [0x3C] } }
    u.readReg .a = 0x01 ∧ u.pc = 0x0101 ∧
      u.events = [.info "INC A" 0x0100, .warning "INC A" 0x0100, .snapshot u.snapshot] := by
  decide

/-- V-DBG-2: the breakpoint suspends before the instruction executes. -/
theorem test_breakpoint_suspends :
    let u := stepped { inRun with breakpoints := [0x0100] }
    u.sched = .stepping 0x00 ∧ u.pc = 0x0100 ∧ u.debugMode = true ∧ u.stepArmed = true ∧ u.stickyStep = true ∧
      u.events = [.info "NOP" 0x0100] := by
  decide

/-- V-DBG-2, variant: an UNKNOWN opcode at the breakpoint does not suspend (R244). -/
theorem test_breakpoint_at_unknown :
    let u := stepped { inRun with breakpoints := [0x0100], mem := [(0x0100, 0xDD)] }
    u.sched = .halted ∧ u.events = [.error 0xDD 0x0100, .alert 0xDD 0x0100] := by
  decide

/-- V-DBG-3: SetStickyStep(false) and SingleStep in one batch end the suspension. -/
theorem test_single_step :
    let s := { inRun with
      sched := .stepping 0x00, debugMode := true, stepArmed := true, stickyStep := true
      hostCalls := [[.setStickyStep false, .singleStep]] }
    let u := stepped s
    u.sched = .running ∧ u.pc = 0x0101 ∧ u.stepArmed = false ∧ u.stickyStep = false ∧ u.debugMode = true ∧
      u.events = [.debugSnapshot s.snapshot, .snapshot u.snapshot] ∧ u.bus = [] := by
  decide

/-- R271, R265: a SingleStep or the sticky step suspends the next iteration without a breakpoint; debugMode alone does not
(R267). -/
theorem test_step_without_breakpoint :
    (stepped { inRun with hostCalls := [[.singleStep]] }).sched = .stepping 0x00 ∧
      (stepped { inRun with hostCalls := [[.setStickyStep true]] }).sched = .stepping 0x00 ∧
      (stepped { inRun with debugMode := true }).sched = .running := by
  decide

/-- V-DBG-5: Pause waits after the Info event; Stop then leaves the instruction unexecuted. -/
theorem test_pause_and_stop :
    let u := stepped { inRun with hostCalls := [[.pause]] }
    u.sched = .paused 0x00 ∧ u.pc = 0x0100 ∧ u.events = [.info "NOP" 0x0100] ∧
      (stepped { u with hostCalls := [[.stop]] }).sched = .stopped ∧
      (stepped { u with hostCalls := [[.stop]] }).pc = 0x0100 ∧
      (stepped { u with hostCalls := [[.resume]] }).pc = 0x0101 := by
  decide

/-- V-DBG-7: outside a run the calls but the breakpoint ones change nothing. -/
theorem test_calls_when_idle :
    stepped { State.reset with hostCalls := [[.stop, .pause, .resume, .singleStep, .setStickyStep true]] } = State.reset ∧
      (stepped { State.reset with hostCalls := [[.addBreakpoint 0x0200]] }).isBreakpointEnabled 0x0200 = true := by
  decide

/-- V-RST-1. -/
theorem test_reset_sequence :
    { State.powerUp with
      af := 0x55F0, ime := true, breakpoints := [0x0005], sched := .halted, fatal := some ⟨0xDD, 0x0100⟩ }.applyCall .reset =
      State.reset := by
  decide

/-- V-SYS-5: after STOP the boundary ends the run. -/
theorem test_stop_ends_the_run :
    (stepped { inRun with running := false }).sched = .stopped ∧
      stepped { State.reset with hostCalls := [[.start true]] } =
        { State.reset with running := true, debugMode := true, sched := .running } := by
  decide

/-- W8, second iteration: one Error, one Alert, pc kept. -/
theorem test_fatal :
    let u := stepped { inRun with pc := 0x0102, mem := [(0x0102, 0xD3)] }
    u.fatal = some ⟨0xD3, 0x0102⟩ ∧ u.pc = 0x0102 ∧ u.running = false ∧ u.sched = .halted ∧
      u.events = [.error 0xD3 0x0102, .alert 0xD3 0x0102] := by
  decide

/-- A placed instruction is the next one that runs (log entry 7). -/
theorem test_withFetchWord :
    (stepped (State.reset.withFetchWord 8 0x3C)).readReg .a = 0x02 ∧
      (stepped (State.reset.withFetchWord 16 0xCB37)).readReg .a = 0x10 := by
  decide

/-- P_MEM with ROM below 0x8000 and an external window from 0xA000 to 0xBFFF (R6, R50). -/
def banked : State :=
  { State.powerUp with
    mem := [(0x7FFF, 0x11)]
    params := { Params.defaults with memoryMap := [⟨0x0000, 0x8000, .rom⟩, ⟨0xA000, 0x2000, .external⟩] } }

/-- R51, R71: ROM ignores a core write, RAM takes it; both are requested. -/
theorem test_rom_and_ram :
    (banked.writeByte 0x7FFF 0x22).peek 0x7FFF = 0x11 ∧ (banked.writeByte 0x7FFF 0x22).bus = [.write .byte 0x7FFF 0x22] ∧
      (banked.writeByte 0x8000 0x22).peek 0x8000 = 0x22 := by
  decide

/-- R51, U13: an external address answers by whatever has reached the unit, here one write of another address. -/
theorem test_external_answer :
    (banked.writeByte 0xA000 0x0A).peek 0xBFFF = Config.memoryUnit [.write .byte 0xA000 0x0A] 0xBFFF ∧
      (banked.writeByte 0xA000 0x0A).mem = banked.mem := ⟨rfl, rfl⟩

/-- R280, R294, R268: a load and a Start outside a run; the loaded instruction is the next to execute. -/
theorem test_load_and_start :
    let u := stepped { State.reset with hostCalls := [[.load 0x0100 [0x3C, 0xD3], .start false]] }
    u.sched = .running ∧ u.peek 0x0101 = 0xD3 ∧ (stepped u).readReg .a = 0x02 ∧ (stepped u).pc = 0x0101 := by
  decide

/-- R57, R66, R250: with IF mapped and SP at 0xFF11, the push of pc 0x0113 at 0xFF0F writes IF after the bit is cleared. -/
theorem test_dispatch_pushes_into_if :
    let u := { inRun with
      ime := true, ieReg := 0x01, ifReg := 0x01, sp := 0xFF11, pc := 0x0113
      params := { Params.defaults with dispatch := .sm83, ieIfMapped := true } }.dispatch
    u.pc = 0x0040 ∧ u.ifReg = 0x13 ∧ u.mem.read 0xFF0F = 0x00 ∧ u.mem.read 0xFF10 = 0x01 ∧
      u.bus = [.write .short 0xFF10 0x01] := by
  decide

/-! ### Witnesses: the hypotheses of each statement, met by concrete values -/

theorem witness_LdRegRegCopiesOneRegister :
    Instr.ldBC.form = .ldRegReg .b .c ∧ Instr.ldAA.form = .ldRegReg .a .a := ⟨rfl, rfl⟩

theorem witness_LdRegImmLoadsTheOperand :
    (Instr.ldAD8 0x00).form = .ldRegImm .a 0x00 ∧ (Instr.ldBD8 0xFF).form = .ldRegImm .b 0xFF := ⟨rfl, rfl⟩

theorem witness_LdRegMemReadsAtTheOldHl : Instr.ldHAtHl.form = .ldRegMem .h := rfl

theorem witness_StoresAtHlWriteOneByte :
    Instr.ldAtHlH.form = .ldMemReg .h ∧ base.readReg .h = 0x01 ∧ [0b01#2 ++ 0b110#3 ++ Reg8.h.code] = [0x74] ∧
      Instr.ldAtHlD8 0xFF = .ldAtHlD8 0xFF := ⟨rfl, by decide, rfl, rfl⟩

theorem witness_LoadsOfAThroughAnAddress :
    base.bc = 0x0013 ∧ base.de = 0x00D8 ∧ Instr.ldAAtA16 0xFFFF = .ldAAtA16 0xFFFF ∧
      (0xFFFF : Word) = 0xFF00 + (0xFF : Byte).setWidth 16 ∧
      (0xFF13 : Word) = 0xFF00 + (base.readReg .c).setWidth 16 := by
  decide

theorem witness_StoresOfAThroughAnAddress :
    base.bc = 0x0013 ∧ base.de = 0x00D8 ∧ Instr.ldAtA16A 0xFF0F = .ldAtA16A 0xFF0F ∧
      (0xFF0F : Word) = 0xFF00 + (0x0F : Byte).setWidth 16 ∧ (0xFF13 : Word) = 0xFF00 + (base.readReg .c).setWidth 16 ∧
      { base with params := { Params.defaults with ieIfMapped := true } }.params.ieIfMapped = true := by
  decide

theorem witness_HlMovesAfterItsAccess :
    (Instr.ldAtHlIncA = .ldAtHlIncA ∧ (1 : Word) = 1) ∧ (Instr.ldAtHlDecA = .ldAtHlDecA ∧ (0xFFFF : Word) = -1) ∧
      (Instr.ldAAtHlInc = .ldAAtHlInc ∧ (1 : Word) = 1) ∧ (Instr.ldAAtHlDec = .ldAAtHlDec ∧ (0xFFFF : Word) = -1) := by
  decide

theorem witness_SixteenBitLoads :
    (Instr.ldSpD16 0xFFFF).form = .ldPairImm .sp 0xFFFF ∧ (Instr.ldBcD16 0x0000).form = .ldPairImm .bc 0x0000 ∧
      Instr.ldAtA16Sp 0xFFFF = .ldAtA16Sp 0xFFFF ∧ Instr.ldSpHl = .ldSpHl := ⟨rfl, rfl, rfl, rfl⟩

theorem witness_PushStoresThePairBelowSp : Instr.pushBc.form = .push .bc ∧ Instr.pushAf.form = .push .af := ⟨rfl, rfl⟩

theorem witness_PopLoadsThePairAtSp : Instr.popBc.form = .pop .bc ∧ Instr.popAf.form = .pop .af := ⟨rfl, rfl⟩

/-- Operand (HL) and d8, without and with the carry (base has C set). -/
theorem witness_AddAndAdcSumWithCarryFlags :
    Instr.addAAtHl.form = .aluReg .add .atHl ∧ base.readLoc .atHl = 0x00 ∧
      (Instr.addAD8 0xFF).form = .aluImm .add 0xFF ∧ Instr.adcAA.form = .aluReg .adc (.reg .a) ∧
      base.readLoc (.reg .a) = 0x01 ∧ (Instr.adcAD8 0xFF).form = .aluImm .adc 0xFF ∧ (base.flag .c).toNat = 1 :=
  ⟨rfl, by decide, rfl, rfl, by decide, rfl, by decide⟩

theorem witness_SubAndSbcBorrowFlags :
    Instr.subAtHl.form = .aluReg .sub .atHl ∧ base.readLoc .atHl = 0x00 ∧ (Instr.subD8 0xFF).form = .aluImm .sub 0xFF ∧
      Instr.sbcAA.form = .aluReg .sbc (.reg .a) ∧ base.readLoc (.reg .a) = 0x01 ∧
      (Instr.sbcAD8 0xFF).form = .aluImm .sbc 0xFF ∧ (base.flag .c).toNat = 1 :=
  ⟨rfl, by decide, rfl, rfl, by decide, rfl, by decide⟩

theorem witness_LogicalOperationsAndTheirFlags :
    Instr.andB.form = .aluReg .and (.reg .b) ∧ (Instr.andD8 0x0F).form = .aluImm .and 0x0F ∧
      Instr.xorA.form = .aluReg .xor (.reg .a) ∧ (Instr.xorD8 0x0F).form = .aluImm .xor 0x0F ∧
      Instr.orAtHl.form = .aluReg .or .atHl ∧ (Instr.orD8 0x0F).form = .aluImm .or 0x0F ∧ base.readLoc (.reg .b) = 0x00 :=
  ⟨rfl, rfl, rfl, rfl, rfl, rfl, by decide⟩

theorem witness_CompareKeepsA :
    Instr.cpAtHl.form = .aluReg .cp .atHl ∧ base.readLoc .atHl = 0x00 ∧ (Instr.cpD8 0xFF).form = .aluImm .cp 0xFF :=
  ⟨rfl, by decide, rfl⟩

theorem witness_IncAndDecKeepCarry :
    Instr.incA.form = .inc8 (.reg .a) ∧ Instr.incAtHl.form = .inc8 .atHl ∧ Instr.decA.form = .dec8 (.reg .a) ∧
      Instr.decAtHl.form = .dec8 .atHl ∧ base.readLoc .atHl - 1 = 0xFF := ⟨rfl, rfl, rfl, rfl, by decide⟩

/-- Both paths: power-up has N clear, and 0xF0 has it set. -/
theorem witness_DaaAppliesTheCorrection :
    base.flag .n = false ∧ { base with af := 0x01F0 }.flag .n = true := by decide

theorem witness_DaaMakesBcdSums :
    Instr.addAB.form = .aluReg .add (.reg .b) ∧ { base with af := 0x9900, bc := 0x0113 }.readReg .a = 0x99 ∧
      BitVec.ofNat 8 (99 / 10 * 16 + 99 % 10) = (0x99 : Byte) ∧
      { base with af := 0x9900, bc := 0x0113 }.readReg .b = BitVec.ofNat 8 (1 / 10 * 16 + 1 % 10) :=
  ⟨rfl, by decide, by decide, by decide⟩

theorem witness_AddHlPairKeepsZ : Instr.addHlHl.form = .addHl .hl ∧ Instr.addHlSp.form = .addHl .sp := ⟨rfl, rfl⟩

theorem witness_PairIncAndDecWriteNoFlag : Instr.incSp.form = .inc16 .sp ∧ Instr.decBc.form = .dec16 .bc := ⟨rfl, rfl⟩

/-- A result of 0 and a carry out, in each of the four. -/
theorem witness_AccumulatorRotatesClearZ :
    { base with af := 0x8000 }.readReg .a = 0x80 ∧ (0x80 : Byte).rotateLeft 1 = 0x01 ∧
      (0x80 : Byte).rotateRight 1 = 0x40 ∧ (0x80 : Byte).extractLsb' 0 7 ++ BitVec.ofBool false = 0x00 ∧
      BitVec.ofBool true ++ (0x80 : Byte).extractLsb' 1 7 = 0xC0 := by decide

theorem witness_CbShiftsAndRotates :
    Instr.rlcB.form = .shift .rlc (.reg .b) ∧ Instr.rrcAtHl.form = .shift .rrc .atHl ∧
      Instr.rlL.form = .shift .rl (.reg .l) ∧ Instr.rrAtHl.form = .shift .rr .atHl ∧
      Instr.slaA.form = .shift .sla (.reg .a) ∧ Instr.sraA.form = .shift .sra (.reg .a) ∧
      Instr.swapA.form = .shift .swap (.reg .a) ∧ Instr.srlA.form = .shift .srl (.reg .a) := by
  refine ⟨rfl, rfl, rfl, rfl, rfl, rfl, rfl, rfl⟩

theorem witness_BitTestsOneBit : Instr.bit7AtHl.form = .bit 7 .atHl ∧ Instr.bit0A.form = .bit 0 (.reg .a) := ⟨rfl, rfl⟩

theorem witness_ResAndSetChangeOneBit :
    Instr.res7AtHl.form = .res 7 .atHl ∧ Instr.set0A.form = .set 0 (.reg .a) := ⟨rfl, rfl⟩

/-- Each condition, met and not met. -/
theorem witness_AbsoluteJumps :
    (Instr.jpNzA16 0xFFFF).form = .jpCond .nz 0xFFFF ∧ (Instr.jpCA16 0x0000).form = .jpCond .c 0x0000 ∧
      base.flag .z = true ∧ base.flag .c = true ∧ { base with af := 0x0100 }.flag .z = false ∧
      { base with af := 0x0100 }.flag .c = false := ⟨rfl, rfl, by decide, by decide, by decide, by decide⟩

theorem witness_RelativeJumps :
    (Instr.jrZE8 0x80).form = .jrCond .z 0x80 ∧ (Instr.jrNcE8 0x7F).form = .jrCond .nc 0x7F ∧ base.flag .z = true ∧
      base.flag .c = true := ⟨rfl, rfl, by decide, by decide⟩

theorem witness_CallsPushTheReturnAddress :
    (Instr.callZA16 0x4000).form = .callCond .z 0x4000 ∧ (Instr.callNzA16 0x4000).form = .callCond .nz 0x4000 ∧
      base.flag .z = true ∧ Instr.rst38.form = .rst 7 ∧ (0x0038 : Word) = BitVec.ofNat 16 (8 * (7 : BitVec 3).toNat) :=
  ⟨rfl, rfl, by decide, rfl, by decide⟩

theorem witness_ReturnsPopThePc :
    Instr.retC.form = .retCond .c ∧ Instr.retNc.form = .retCond .nc ∧ base.flag .c = true := ⟨rfl, rfl, by decide⟩

theorem witness_StackTransfersComeBack :
    base.params.ieIfMapped = false ∧ base.kind (base.sp - 2) = .ram ∧ base.kind (base.sp - 1) = .ram ∧
      Instr.pushAf.form = .push .af ∧ Instr.popBc.form = .pop .bc ∧
      (∃ t, exec .pushAf base = .next t ∧ ∃ u, exec .popBc t = .next u) ∧
      ∃ t, exec (.callA16 0x4000) base = .next t ∧ ∃ u, exec .ret t = .next u :=
  ⟨rfl, by decide, by decide, rfl, rfl, ⟨_, rfl, _, rfl⟩, _, rfl, _, rfl⟩

theorem witness_HaltWaitsOrRepeatsTheNextByte :
    let s := { base with haltRepeat := true }
    s.haltRepeat = true ∧ base.haltRepeat = false ∧ s.params.unimplemented = [] ∧ primary 0x3C = .bare .incA ∧
      primary 0x3E = .imm8 .ldAD8 ∧ .ldAD8 0x00 = Instr.ldAD8 (s.peek (s.pc + 1)) ∧
      primary 0xC3 = .imm16 .jpA16 ∧ .jpA16 0x0000 = Instr.jpA16 (s.peekNext (s.pc + 1) ++ s.peek (s.pc + 1)) :=
  ⟨rfl, rfl, rfl, rfl, rfl, by decide, rfl, by decide⟩

theorem witness_UnknownOpcodesRaiseDecodeError : Instr.unknownFD.form = .unknown 0xFD ∧ Instr.unknownD3.form = .unknown 0xD3 :=
  ⟨rfl, rfl⟩

theorem witness_ByteViewWritesChangeOneByte :
    Reg8.b ≠ .c ∧ Pair.sp ≠ .hl ∧ base.keepsWrites (base.sp - 2) = true ∧ base.keepsWrites (base.sp - 1) = true := by decide

theorem witness_FlagPrimitivesTouchOneFlag :
    base.flagSet .n = base.flagSet .n ∧ base.flag .n = false ∧ (base.flagSet .n).flag .n = true ∧
      (base.flagClear .z).flag .z = false := by decide

theorem witness_WhatMayWriteTheFlagRegister :
    (∃ t, exec (.jpA16 0x0000) base = .next t) ∧ (Instr.jpA16 0x0000).form = .jp 0x0000 ∧
      Instr.incA.form = .inc8 (.reg .a) ∧ Instr.decAtHl.form = .dec8 .atHl ∧ base.af &&& 0x000F = 0 :=
  ⟨⟨_, rfl⟩, rfl, rfl, rfl, by decide⟩

theorem witness_MemoryReadsWhatWasWritten :
    Memory.wf [(0x0000, 0x01), (0xFFFF, 0xFF)] = true ∧ (0xFFFF : Nat) < 65536 ∧ (0xFFFF : Nat) ≠ 0 ∧
      (∀ a : Word, banked.reachesIE a = false ∧ banked.reachesIF a = false) ∧
      banked.kind 0x7FFF = .rom ∧ banked.kind 0x8000 = .ram ∧ banked.kind 0x9FFF = .ram ∧ banked.kind 0xA000 = .external ∧
      banked.kind 0xBFFF = .external ∧ banked.kind 0xC000 = .ram ∧ base.params.memoryMap = [] :=
  ⟨by decide, by decide, by decide, fun _ => ⟨rfl, rfl⟩, by decide, by decide, by decide, by decide, by decide, by decide, rfl⟩

theorem witness_ShortWritesAreLittleEndian :
    base.writeShort 0xFFFF 0x1234 = base.writeShort 0xFFFF 0x1234 ∧ (base.writeShort 0xFFFF 0x1234).peek 0x0000 = 0x12 ∧
      base.external 0xFFFF = false ∧ banked.external 0x9FFF = false ∧ banked.external 0xA000 = true ∧
      banked.kind 0x7FFE ≠ .ram ∧ banked.kind 0x7FFF ≠ .ram := by
  decide

theorem witness_DecodeReadsEveryEncoding : Instr.prefixCb 0xFF = .prefixCb 0xFF ∧ Instr.wellFormed .halt = true := by decide

theorem witness_EncodeRestoresDecodedBytes :
    decode [0xFF, 0x00] = .ok (.rst38, [0x00]) ∧ decode [0xCD, 0x00] = .error (.truncated 0xCD) := ⟨rfl, rfl⟩

/-- A run at a boundary with nothing in its way. -/
theorem test_inRun_ready : inRun.Ready :=
  ⟨rfl, rfl, ⟨rfl, rfl⟩, rfl, rfl, .inl rfl, rfl, ⟨rfl, rfl⟩, by decide, by decide⟩

/-- The same with an UNKNOWN opcode at pc. -/
theorem test_inRun_ready_unknown : { inRun with mem := [(0x0100, 0xDD)] }.Ready :=
  ⟨rfl, rfl, ⟨rfl, rfl⟩, rfl, rfl, .inl rfl, rfl, ⟨rfl, rfl⟩, by decide, by decide⟩

theorem witness_StepRunsTheDecodedInstruction :
    inRun.Ready ∧ decode inRun.bytesAtPc = .ok (.nop, [0x00, 0x00]) ∧ knownOpcode (inRun.peek inRun.pc) = true ∧
      { inRun with mem := [(0x0100, 0xDD)] }.Ready ∧
      decode { inRun with mem := [(0x0100, 0xDD)] }.bytesAtPc = .ok (.unknownDD, [0x00, 0x00]) ∧
      knownOpcode ({ inRun with mem := [(0x0100, 0xDD)] }.peek 0x0100) = false :=
  ⟨test_inRun_ready, rfl, by decide, test_inRun_ready_unknown, rfl, by decide⟩

/-- A run in progress has Inv. -/
theorem test_inRun_inv : inRun.Inv where
  memory := by decide
  flagsLow := by decide
  ifHigh := by decide
  breakpointSet := by decide
  shadowEnabled := by decide
  repeatNeedsBug := by decide
  fatalHalted := by decide
  runningInRun := by decide
  waiting := by intro op h; rcases h with h | h <;> cases h
  sessionDiscarded := by decide
  advanceConsumed := rfl

theorem witness_StepKeepsTheInvariant : inRun.Inv ∧ ∃ t, step inRun = .next t :=
  ⟨test_inRun_inv, stepped inRun, rfl⟩

/-- A pause-wait and a step-wait with Inv. -/
theorem test_waits_inv :
    ({ inRun with sched := .paused 0x00, paused := true } : State).Inv ∧
      ({ inRun with sched := .stepping 0x00, debugMode := true, stepArmed := true } : State).Inv := by
  constructor <;> constructor <;> decide

/-- Halted(fatal) with Inv. -/
theorem test_halted_inv :
    ({ State.powerUp with sched := .halted, fatal := some ⟨0xDD, 0x0100⟩ } : State).Inv := by
  constructor <;> decide

theorem witness_SchedulerTransitions :
    inRun.Inv ∧ (∃ t, step inRun = .next t) ∧ inRun.hostCalls = [] ∧ inRun.sched = .running ∧
      ({ inRun with sched := .paused 0x00, paused := true } : State).Inv ∧
      ({ inRun with sched := .stepping 0x00, debugMode := true, stepArmed := true } : State).Inv ∧
      ({ State.powerUp with sched := .halted, fatal := some ⟨0xDD, 0x0100⟩ } : State).Inv ∧
      HostCall.reset ∉ [HostCall.start true, .stop] ∧ State.reset.inRun = false :=
  ⟨test_inRun_inv, ⟨stepped inRun, rfl⟩, rfl, rfl, test_waits_inv.1, test_waits_inv.2, test_halted_inv, by decide, rfl⟩

/-- Batches at a boundary: with running cleared by a Stop and by a Reset, and with running still set. -/
theorem witness_SchedulerTransitions_boundary :
    { inRun with hostCalls := [[.pause, .stop]] }.observe.running = false ∧
      { inRun with hostCalls := [[.reset]] }.observe.sched = .idle ∧
      { inRun with hostCalls := [[.pause, .singleStep]] }.observe.running = true ∧
      { inRun with haltWait := true }.observe.sampleIrq.wake.haltWait = true ∧
      inRun.observe.sampleIrq.wake.haltWait = false ∧ knownOpcode (inRun.sampleIrq.wake.dispatch.peek 0x0100) = true ∧
      knownOpcode ({ inRun with mem := [(0x0100, 0xDD)] }.sampleIrq.wake.dispatch.peek 0x0100) = false := by
  decide

/-- Batches at each wait: ended by a Reset, a Stop, the wait going on, and its own call. -/
theorem witness_SchedulerTransitions_waits :
    let p := { inRun with sched := .paused 0x00, paused := true }
    let w := { inRun with sched := .stepping 0x00, debugMode := true, stepArmed := true }
    ({ p with hostCalls := [[.reset]] }.observe.sched = .idle ∧
        { p with hostCalls := [[.reset, .start false]] }.observe.sched = .running ∧
        { p with hostCalls := [[.stop]] }.observe.running = false ∧ p.observe.paused = true ∧
        { p with hostCalls := [[.resume]] }.observe.paused = false) ∧
      { w with hostCalls := [[.reset]] }.observe.sched = .idle ∧ { w with hostCalls := [[.stop]] }.observe.running = false ∧
      w.observe.advance = false ∧ { w with hostCalls := [[.singleStep]] }.observe.advance = true := by
  decide

theorem witness_BreakpointSuspendsBeforeExecution :
    let s := { inRun with breakpoints := [0x0100] }
    s.running = true ∧ s.sched = .running ∧ s.noInputs ∧ s.haltWait = false ∧ s.paused = false ∧ s.params.dispatch = .off ∧
      s.pc ∈ s.breakpoints ∧ knownOpcode (s.peek s.pc) = true :=
  ⟨rfl, rfl, ⟨rfl, rfl⟩, rfl, rfl, rfl, by decide, by decide⟩

/-- The order of an iteration's checks: UNKNOWN, paused, armed by the breakpoint, by the sticky step, by SingleStep, and none. -/
theorem witness_BreakpointSuspendsBeforeExecution_order :
    knownOpcode ({ inRun with mem := [(0x0100, 0xDD)] }.peek 0x0100) = false ∧ knownOpcode (inRun.peek 0x0100) = true ∧
      { inRun with paused := true }.paused = true ∧ inRun.paused = false ∧
      decide (inRun.pc ∈ { inRun with breakpoints := [0x0100] }.breakpoints) = true ∧
      ({ inRun with stickyStep := true, debugMode := true }.stepArmed || true || false) = true ∧
      { inRun with debugMode := true, stepArmed := true }.stepArmed = true ∧
      (inRun.debugMode || false) = false := by
  decide

/-- Each wait, with nothing to come, with a Stop, the step-wait with a SingleStep, and the pause-wait with a Resume, armed and
not. -/
theorem witness_WaitsHoldUntilTheirCall :
    let p := { inRun with sched := .paused 0x00, paused := true }
    let w := { inRun with sched := .stepping 0x00, debugMode := true, stepArmed := true }
    let h := { inRun with haltWait := true, ieReg := 0x01, ifReg := 0x1E }
    (p.running = true ∧ p.paused = true ∧ p.noInputs) ∧ (w.advance = false ∧ w.noInputs) ∧
      (h.sched = .running ∧ h.ieReg &&& h.ifReg &&& 0x1F = 0 ∧ h.noInputs) ∧
      { p with hostCalls := [[.stop]] }.hostCalls = [[.stop]] ∧
      { w with hostCalls := [[.singleStep]] }.hostCalls = [[.singleStep]] ∧
      { p with hostCalls := [[.resume]] }.hostCalls = [[.resume]] ∧ p.stepArmed = false ∧
      { p with debugMode := true, stepArmed := true }.stepArmed = true :=
  ⟨⟨rfl, rfl, rfl, rfl⟩, ⟨rfl, rfl, rfl⟩, ⟨rfl, by decide, rfl, rfl⟩, rfl, rfl, rfl, rfl, rfl⟩

theorem witness_StartBeginsARunOnlyOutsideOne :
    State.reset.sched = .idle ∧ { State.reset with sched := .stopped }.sched = .stopped ∧ inRun.inRun = true ∧
      State.reset.inRun = false ∧ (0x0101 : Word) ≠ 0x0100 ∧
      { inRun with sched := .stepping 0x00 }.inRun = true ∧ (∀ op, inRun.sched ≠ .stepping op) ∧
      [0x3C, 0xD3].length ≤ 65536 ∧ [(0x3C : Byte), 0xD3][1]? = some 0xD3 ∧
      (∀ k, k < 2 → (0x0001 : Word) ≠ 0xFFFF + BitVec.ofNat 16 k) :=
  ⟨rfl, rfl, rfl, rfl, by decide, rfl, (fun _ h => nomatch h), by decide, rfl, by decide⟩

theorem witness_PollPendingNamesTheLowestRequest :
    { base with ime := true, ieReg := 0x10, ifReg := 0x18 }.pollPending = some 0x0060 ∧ base.pollPending = none := by decide

/-- k at 0 and at 4, unmapped and mapped, and the three ways to nothing. -/
theorem witness_DispatchTakesThePendingInterrupt :
    let s := { inRun with ime := true, ieReg := 0x1F, params := { Params.defaults with dispatch := .sm83 } }
    (s.params.dispatch = .sm83 ∧ s.eiShadow = false ∧ s.params.ieIfMapped = false) ∧
      { s with ifReg := 0x01 }.pollPending = some (BitVec.ofNat 16 (0x40 + 8 * 0)) ∧
      { s with ifReg := 0x10 }.pollPending = some (BitVec.ofNat 16 (0x40 + 8 * 4)) ∧
      { s with ifReg := 0x01, params := { s.params with ieIfMapped := true } }.pollPending =
        some (BitVec.ofNat 16 (0x40 + 8 * 0)) ∧
      (inRun.params.dispatch = .off ∧ { s with eiShadow := true }.eiShadow = true ∧ s.pollPending = none) := by
  decide

theorem witness_EiDelaysDispatchByOneInstruction :
    (∃ t, exec .ei base = .next t) ∧ (∃ t, exec .di base = .next t) ∧
      let s := { base with ieReg := 0x01, ifReg := 0x01, params := { Params.defaults with dispatch := .sm83 } }
      (∃ t, exec .reti s = .next t) ∧ s.params.dispatch = .sm83 ∧ s.eiShadow = false ∧ s.ieReg &&& s.ifReg &&& 0x1F ≠ 0 :=
  ⟨⟨_, rfl⟩, ⟨_, rfl⟩, ⟨_, rfl⟩, rfl, rfl, by decide⟩

/-- The boundary's clauses: running cleared by a Stop, a halt wait that goes on, one that ends, and a request that the
sampling brings. -/
theorem witness_EiDelaysDispatchByOneInstruction_boundary :
    let s := { inRun with ime := true, ieReg := 0x01, irqs := [1], params := { Params.defaults with dispatch := .sm83 } }
    s.sched = .running ∧ { s with hostCalls := [[.stop]] }.observe.running = false ∧ s.observe.running = true ∧
      { s with haltWait := true, irqs := [0] }.observe.sampleIrq.wake.haltWait = true ∧
      { s with haltWait := true }.observe.sampleIrq.wake.haltWait = false ∧ s.running = true ∧ s.hostCalls = [] ∧
      s.eiShadow = false ∧ s.sampleIrq.pollPending = some 0x0040 ∧
      { s with haltWait := true }.sampleIrq.pollPending = some 0x0040 := by
  decide

theorem witness_WakeAndRequestSampling :
    { base with irqs := [0x1F] }.irqs = [0x1F] ∧ base.irqs = [] := by decide

theorem witness_InstructionsKeepTheControlState :
    (∃ t, exec .nop base = .next t) ∧ Instr.nop ≠ .ei ∧ Instr.nop ≠ .di ∧ Instr.nop ≠ .reti ∧ Instr.nop ≠ .halt ∧
      (∀ op, Instr.nop.form ≠ .unknown op) ∧ ∀ n, Instr.nop ≠ .stop n :=
  ⟨⟨_, rfl⟩, by decide, by decide, by decide, by decide, (fun _ h => nomatch h), (fun _ h => nomatch h)⟩

theorem witness_UnmappedIeIfAreUnreachable :
    base.params.ieIfMapped = false ∧ (∃ t, exec (.ldhAtA8A 0xFF) base = .next t) ∧ Instr.ldhAtA8A 0xFF ≠ .halt :=
  ⟨rfl, ⟨_, rfl⟩, (fun h => nomatch h)⟩

theorem witness_UnimplementedOpcodesOnlyWarn :
    let s := { inRun with params := { Params.defaults with unimplemented := [0xCD] } }
    (0xCD : Byte) ∈ s.params.unimplemented ∧ s.haltRepeat = false ∧ { s with haltRepeat := true }.haltRepeat = true := by
  decide

theorem witness_ObservationOnlyGrows : ∃ t, step inRun = .next t := ⟨stepped inRun, rfl⟩
end

section
/-! SUPPORT. The forms whose instructions alone may change the control state, and the forms that have a flag rule. -/

namespace Sys2Proof

/-- The instructions of the forms that may change IME, the EI delay, the HALT bits or running (R210, R221, R225 to R227). -/
def Form.controlInstr : Form → Option Instr
  | .ei => some .ei
  | .di => some .di
  | .reti => some .reti
  | .halt => some .halt
  | .stop n => some (.stop n)
  | _ => none

/-- No other row of the table has the form of one of these. -/
theorem Instr.eq_of_controlInstr {i j : Instr} (h : i.form.controlInstr = some j) : i = j := by
  cases i
  case ei | di | reti | halt | stop => exact Option.some.inj h
  all_goals cases h

/-- An instruction other than one of these has another form. -/
theorem Instr.form_ne {i j : Instr} (h : i ≠ j) (hj : j.form.controlInstr = some j) : i.form ≠ j.form :=
  fun e => h (Instr.eq_of_controlInstr (e ▸ hj))

/-- The forms that have a flag rule: R29 lists the others as writing no flag; PREFIX CB's rows have their own. -/
def Form.writesFlags : Form → Bool
  | .aluReg _ _ | .aluImm _ _ | .inc8 _ | .dec8 _ | .daa | .cpl | .scf | .ccf | .addHl _ | .addSp _ | .ldHlSp _
  | .rlca | .rrca | .rla | .rra | .shift _ _ | .bit _ _ | .pop .af | .prefixCb _ => true
  | _ => false

end Sys2Proof
end

section
/-! SUPPORT. AF, its views and the single flags (10_state.md R22 to R29): what reads them after a write, and which forms keep
the flags. -/

namespace Sys2Proof.Machine

/-- F reads as the low byte of AF with its low nibble masked (R26, R27). -/
theorem State.regF_eq (s : State) : s.regF = loByte s.af &&& 0xF0 := loByte_mask s.af

@[simp] theorem State.writeReg_regF (s : State) (r : Reg8) (v : Byte) : (s.writeReg r v).regF = s.regF := by
  cases r
  case a => simp [State.writeReg, State.regF_eq, loByte_mask, BitVec.and_assoc]
  all_goals rfl

/-- A read of AF is A followed by F (R24). -/
theorem State.regAF_eq (s : State) : s.regAF = joinBytes (s.readReg .a) s.regF :=
  word_ext (by simp [State.regAF, State.readReg, hiByte_mask]) (by simp [State.regF])

/-- A flag is its bit of AF, which lies above the masked nibble (R26). -/
theorem State.setAF_flag (s : State) (w : Word) (f : Flag) : (s.setAF w).flag f = w.getLsbD f.position := by
  cases f <;> simp [State.flag, State.regF, loByte, Flag.position]

/-- FlagSet and FlagClear write their own flag (R28). -/
theorem State.writeOnly_flag_same (s : State) (f : Flag) (b : Bool) : (s.writeFlags (.only f b)).flag f = b := by
  cases f <;> simp [FlagWrite.only]

/-- FlagSet and FlagClear leave the other three flags (R28). -/
theorem State.writeOnly_flag_other (s : State) {f g : Flag} (b : Bool) (h : g ≠ f) :
    (s.writeFlags (.only f b)).flag g = s.flag g := by
  cases g <;> simp [FlagWrite.only, h.symm]

/-- A write of an 8-bit operand leaves every flag (R29). -/
theorem State.writeLoc_flag (s : State) (l : Loc8) (v : Byte) (f : Flag) : (s.writeLoc l v).flag f = s.flag f := by
  cases l with
  | reg r => exact s.writeReg_flag r v f
  | atHl => exact State.flag_congr (by simp [State.writeLoc]) f

theorem flagsKept_loadAcc (a : Word) (s : State) : FlagsKept s (loadAcc a s) := by
  intro g; simp [loadAcc]

theorem flagsKept_loadAccMove (d : Word) (s : State) : FlagsKept s (loadAccMove d s) := fun g =>
  (State.flag_congr (s := loadAcc s.hl s) rfl g).trans (flagsKept_loadAcc s.hl s g)

/-- The forms without a flag rule write no flag (R29). -/
theorem flagsKept_perform (f : Form) (s : State) (hf : f.writesFlags = false) : FlagsKept s (perform f s) := by
  cases f
  case jpCond | jrCond | callCond | retCond =>
    simp only [perform, whenHolds]; split
    · exact .of_af (by simp [jumpTo, jumpRelative, callTo, returnTo])
    · exact .of_af rfl
  case ldRegReg | ldRegImm => exact s.writeReg_flag _ _
  case ldRegMem => intro g; simp [perform, ldRegMem]
  case ldAccPtr | ldAccAbs | ldAccHigh | ldAccHighC => exact flagsKept_loadAcc _ s
  case ldAccHlInc | ldAccHlDec => exact flagsKept_loadAccMove _ s
  case res | set =>
    exact fun g => (State.writeLoc_flag _ _ _ g).trans (s.noteLoc_flag _ g)
  case pop rr =>
    cases rr
    case af => cases hf
    all_goals exact .of_af (by simp [perform, popPair, State.writeStackPair])
  case halt => simp only [perform, haltCore]; split <;> exact .of_af rfl
  case aluReg | aluImm | inc8 | dec8 | daa | cpl | scf | ccf | addHl | addSp | ldHlSp | rlca | rrca | rla | rra |
      shift | bit | prefixCb =>
    cases hf
  all_goals exact .of_af (by simp [perform, disableInterrupts, enableInterrupts, returnTo, jumpTo,
      State.returnFromInterrupt, ldSpHl, storeAcc, storeAccMove, stopRun, ldMemReg, ldMemImm, ldPairImm, stSpAbs,
      pushPair, incPair, decPair, jumpRelative, callTo, State.raiseDecodeError, State.emit, State.clearSession])

end Sys2Proof.Machine
end

section
/-! SUPPORT. The parts of a boundary and the operand fetch, each as the fields it changes (60_exceptions.md R248, R250, R263;
30_encoding.md R75, R76; 46_system.md R222). -/

namespace Sys2Proof.Machine

/-- Interrupt entry changes IF, IME, SP, pc, what the push stores and the output alone (R250, R253). -/
theorem State.enterInterrupt_eq (s : State) (t : Word) :
    s.enterInterrupt t =
      { s with
        pc := t, sp := s.sp - 2, ime := false, mem := (s.enterInterrupt t).mem, ieReg := (s.enterInterrupt t).ieReg
        ifReg := (s.enterInterrupt t).ifReg, bus := (s.enterInterrupt t).bus, events := (s.enterInterrupt t).events } := by
  unfold State.enterInterrupt
  dsimp only
  rw [State.push16_requests]
  rfl

/-- Interrupt entry keeps memory canonical and IF[7:5] zero: it clears a bit of IF and pushes. -/
theorem stable_enterInterrupt (s : State) (t : Word) : Stable s (s.enterInterrupt t) := by
  have cleared : ∀ k : Nat, Stable s { s with ifReg := s.ifReg &&& ~~~(1#8 <<< k), ime := false } := by
    refine fun k => ⟨id, fun h => ?_⟩
    show s.ifReg &&& ~~~(1#8 <<< k) &&& 0xE0#8 = 0
    rw [BitVec.and_assoc, BitVec.and_comm (~~~_), ← BitVec.and_assoc, h]
    exact BitVec.zero_and
  exact (cleared _).trans ((stable_push16 _ _).trans (Stable.of rfl rfl))

/-- Dispatch takes the interrupt that PollPending names, or does nothing (R250). -/
theorem State.dispatch_cases (s : State) : s.dispatch = s ∨ ∃ t, s.dispatch = s.enterInterrupt t := by
  unfold State.dispatch
  split
  · split
    · exact .inr ⟨_, rfl⟩
    · exact .inl rfl
  · exact .inl rfl

theorem State.noteOperands_eq (s : State) (e : Entry) (a : Word) :
    s.noteOperands e a = { s with bus := (s.noteOperands e a).bus } := by
  cases e <;> simp [State.noteOperands, State.noteRead_requests]

/-- The fetch of an instruction changes pc and the requests and consumes halt_repeat (R75, R76, R224). -/
theorem State.afterFetch_eq (s : State) (e : Entry) :
    s.afterFetch e = { s with haltRepeat := false, pc := (s.afterFetch e).pc, bus := (s.afterFetch e).bus } := by
  unfold State.afterFetch
  rw [State.noteOperands_eq, State.passOpcode_eq]

theorem State.observe_of_noCalls {s : State} (h : s.hostCalls = []) : s.observe = s := by
  simp [State.observe, h]

/-- Request sampling changes IF and the requests to come alone (R248). -/
theorem State.sampleIrq_eq (s : State) :
    s.sampleIrq = { s with ifReg := s.sampleIrq.ifReg, irqs := s.sampleIrq.irqs } := by
  unfold State.sampleIrq; split <;> rfl

/-- The wake changes the halt wait alone (R222). -/
theorem State.wake_eq (s : State) : s.wake = { s with haltWait := s.wake.haltWait } := by
  unfold State.wake; split <;> rfl

theorem State.pollPending_eq_some {s : State} {v : Word} (h : s.pollPending = some v) :
    s.ime = true ∧ s.pendingMask ≠ 0 := by
  simpa [State.pollPending] using Option.isSome_of_eq_some h

/-- With an enabled request pending no halt wait goes on (R222). -/
theorem State.wake_haltWait_of_pending {s : State} (h : s.pendingMask ≠ 0) : s.wake.haltWait = false := by
  unfold State.wake
  split
  · rfl
  · rename_i hn
    exact Bool.eq_false_iff.mpr fun hw => hn ⟨hw, h⟩

theorem State.pollPending_of_pending {s : State} (hi : s.ime = true) (hp : s.pendingMask ≠ 0) :
    s.pollPending = some (irqVector (lowestIrq s.pendingMask)) := by
  simpa [State.pollPending, hi] using hp

/-- A boundary takes the pending interrupt where dispatch is on and the EI delay is over (R250, R252, R263). -/
theorem State.leaveBoundary_takes {s : State} {v : Word} (hd : s.params.dispatch = .sm83) (he : s.eiShadow = false)
    (hp : s.pollPending = some v) : s.leaveBoundary = { s.enterInterrupt v with eiShadow := false } := by
  simp [State.leaveBoundary, State.dispatch, hd, he, hp]

theorem State.leaveBoundary_none {s : State} (h : s.params.dispatch = .off ∨ s.eiShadow = true ∨ s.pollPending = none) :
    s.leaveBoundary = { s with eiShadow := false } := by
  rw [State.leaveBoundary, State.dispatch_none h]

/-- A boundary with running 1, in its order: sampling, wake, and then the halt wait or the iteration (R263). -/
theorem boundary_of_running {s : State} (hr : s.running = true) :
    boundary s =
      if s.sampleIrq.wake.haltWait then .next s.sampleIrq.wake else iterate s.sampleIrq.wake.leaveBoundary := by
  simp [boundary, hr]

theorem step_of_running {s : State} (h : s.sched = .running) : step s = boundary s.observe := by
  simp [step, schedulerStep, h]

/-- A host call leaves `sched`, or is a Reset or a Start (R268, R291). -/
theorem State.sched_applyCall (s : State) (c : HostCall) :
    (s.applyCall c).sched = s.sched ∨ (s.applyCall c).sched = .idle ∨ (s.applyCall c).sched = .running := by
  cases c with
  | reset => exact .inr (.inl rfl)
  | start d => simp only [State.applyCall, State.start]; split <;> simp
  | stop | pause | resume => simp only [State.applyCall]; split <;> simp
  | singleStep => simp only [State.applyCall, State.singleStep]; split <;> simp
  | setStickyStep b => simp only [State.applyCall, State.setStickyStep]; split <;> (try split) <;> simp
  | load a bytes => simp only [State.applyCall, State.load]; split <;> simp
  | addBreakpoint | removeBreakpoint => exact .inl rfl

theorem State.sched_observe (s : State) :
    s.observe.sched = s.sched ∨ s.observe.sched = .idle ∨ s.observe.sched = .running := by
  refine State.observe_induction (P := fun u => u.sched = s.sched ∨ u.sched = .idle ∨ u.sched = .running) (.inl rfl) ?_
  intro u c hu
  rcases u.sched_applyCall c with h | h
  · rw [h]; exact hu
  · exact .inr h

end Sys2Proof.Machine
end

section
/-! SUPPORT. IE and IF out of reach (20_memory.md R66): where they are not mapped every operation but HALT does the same with other
values in them. -/

namespace Sys2Proof.Machine

/-- The state with other values of IE and IF. -/
def State.withIrq (s : State) (x y : Byte) : State := { s with ieReg := x, ifReg := y }

section withIrq

variable (s : State) (x y : Byte)

@[simp] theorem State.withIrq_af : (s.withIrq x y).af = s.af := rfl
@[simp] theorem State.withIrq_bc : (s.withIrq x y).bc = s.bc := rfl
@[simp] theorem State.withIrq_de : (s.withIrq x y).de = s.de := rfl
@[simp] theorem State.withIrq_hl : (s.withIrq x y).hl = s.hl := rfl
@[simp] theorem State.withIrq_sp : (s.withIrq x y).sp = s.sp := rfl
@[simp] theorem State.withIrq_pc : (s.withIrq x y).pc = s.pc := rfl
@[simp] theorem State.withIrq_params : (s.withIrq x y).params = s.params := rfl
@[simp] theorem State.withIrq_flag (f : Flag) : (s.withIrq x y).flag f = s.flag f := rfl
@[simp] theorem State.withIrq_holds (cc : Cond) : (s.withIrq x y).holds cc = s.holds cc := by cases cc <;> rfl
@[simp] theorem State.withIrq_readReg (r : Reg8) : (s.withIrq x y).readReg r = s.readReg r := by cases r <;> rfl
@[simp] theorem State.withIrq_readPair (rr : Pair) : (s.withIrq x y).readPair rr = s.readPair rr := by cases rr <;> rfl
@[simp] theorem State.withIrq_readStackPair (rr : StackPair) :
    (s.withIrq x y).readStackPair rr = s.readStackPair rr := by cases rr <;> rfl
@[simp] theorem State.withIrq_readPtr (p : PtrPair) : (s.withIrq x y).readPtr p = s.readPtr p := by cases p <;> rfl

@[simp] theorem State.withIrq_writeFlags (w : FlagWrite) :
    (s.withIrq x y).writeFlags w = (s.writeFlags w).withIrq x y := rfl
@[simp] theorem State.withIrq_writeReg (r : Reg8) (v : Byte) :
    (s.withIrq x y).writeReg r v = (s.writeReg r v).withIrq x y := by cases r <;> rfl
@[simp] theorem State.withIrq_writePair (rr : Pair) (v : Word) :
    (s.withIrq x y).writePair rr v = (s.writePair rr v).withIrq x y := by cases rr <;> rfl
@[simp] theorem State.withIrq_writeStackPair (rr : StackPair) (v : Word) :
    (s.withIrq x y).writeStackPair rr v = (s.writeStackPair rr v).withIrq x y := by cases rr <;> rfl
@[simp] theorem State.withIrq_jumpTo (t : Word) : jumpTo t (s.withIrq x y) = (jumpTo t s).withIrq x y := rfl
@[simp] theorem State.withIrq_noteRead (a : Word) : (s.withIrq x y).noteRead a = (s.noteRead a).withIrq x y := by
  rw [State.noteRead_requests, State.noteRead_requests]; rfl
@[simp] theorem State.withIrq_noteLoc (l : Loc8) : (s.withIrq x y).noteLoc l = (s.noteLoc l).withIrq x y := by
  rw [State.noteLoc_requests, State.noteLoc_requests]; cases l <;> rfl
@[simp] theorem State.withIrq_afterPop : (s.withIrq x y).afterPop = s.afterPop.withIrq x y := by
  rw [State.afterPop_requests, State.afterPop_requests]; rfl

variable {s} (hm : s.params.ieIfMapped = false)
include hm

theorem State.reachesIE_unmapped (a : Word) : s.reachesIE a = false := by simp [State.reachesIE, hm]
theorem State.reachesIF_unmapped (a : Word) : s.reachesIF a = false := by simp [State.reachesIF, hm]

@[simp] theorem State.withIrq_peek (a : Word) : (s.withIrq x y).peek a = s.peek a := by
  simp only [State.peek, State.reachesIE_unmapped (s := s.withIrq x y) hm, State.reachesIF_unmapped (s := s.withIrq x y) hm,
    State.reachesIE_unmapped hm, State.reachesIF_unmapped hm]
  rfl

@[simp] theorem State.withIrq_writeByte (a : Word) (v : Byte) (c : WriteCall) :
    (s.withIrq x y).writeByte a v c = (s.writeByte a v c).withIrq x y := by
  rw [State.writeByte_plain _ _ _ _ (State.reachesIE_unmapped hm a) (State.reachesIF_unmapped hm a),
    State.writeByte_plain _ _ _ _ (State.reachesIE_unmapped (s := s.withIrq x y) hm a)
      (State.reachesIF_unmapped (s := s.withIrq x y) hm a)]
  rfl

@[simp] theorem State.withIrq_writeShort (a v : Word) :
    (s.withIrq x y).writeShort a v = (s.writeShort a v).withIrq x y := by
  simp only [State.writeShort, State.withIrq_params]
  split <;> simp [hm]

@[simp] theorem State.withIrq_push16 (v : Word) : (s.withIrq x y).push16 v = (s.push16 v).withIrq x y :=
  State.withIrq_writeShort (s := { s with sp := s.sp - 2 }) x y hm (s.sp - 2) v

@[simp] theorem State.withIrq_popValue : (s.withIrq x y).popValue = s.popValue := by
  simp [State.popValue, State.peekNext, hm]

@[simp] theorem State.withIrq_readLoc (l : Loc8) : (s.withIrq x y).readLoc l = s.readLoc l := by
  cases l <;> simp [State.readLoc, hm]

@[simp] theorem State.withIrq_writeLoc (l : Loc8) (v : Byte) :
    (s.withIrq x y).writeLoc l v = (s.writeLoc l v).withIrq x y := by
  cases l <;> simp [State.writeLoc, hm]

/-- Every operation but HALT's does the same with other values in IE and IF, and leaves them there. -/
theorem perform_withIrq (f : Form) (hf : f ≠ .halt) :
    perform f (s.withIrq x y) = (perform f s).withIrq x y := by
  cases f
  case halt => exact absurd rfl hf
  case jpCond | jrCond | callCond | retCond =>
    simp only [perform, whenHolds, State.withIrq_holds]
    split
    · simp [jumpRelative, callTo, returnTo, hm]
    · rfl
  case prefixCb n =>
    simp only [perform, performCb]
    split <;> simp [shiftLoc, modifyLoc, testBit, resetBit, assertBit, hm]
  case nop | di | ei | stop | unknown | ldSpHl | addSp | ldHlSp | scf | ccf => rfl
  case addHl rr => cases rr <;> rfl
  case stAccHlInc | stAccHlDec =>
    simp only [perform, storeAccMove, storeAcc, State.withIrq_hl, State.withIrq_readReg, State.withIrq_writeByte x y hm]
    rfl
  case ldAccHlInc | ldAccHlDec =>
    simp only [perform, loadAccMove, loadAcc, State.withIrq_hl, State.withIrq_noteRead, State.withIrq_peek x y hm,
      State.withIrq_writeReg]
    rfl
  case reti =>
    simp only [perform, State.returnFromInterrupt, State.withIrq_afterPop, State.withIrq_popValue x y hm]
    rfl
  all_goals
    simp [perform, decimalAdjust, accResult, complementAcc,
        rotateAcc, returnTo, storeAcc, loadAcc,
        ldRegReg, ldRegImm, ldRegMem, ldMemReg, ldMemImm, ldPairImm, stSpAbs,
        pushPair, popPair, aluLoc, aluValue, incLoc, decLoc, modifyLoc, incPair, decPair,
        shiftLoc, testBit, resetBit, assertBit, jumpRelative, callTo, hm]

/-- Unmapped, IE and IF stay: an operation commutes with setting them to what they are, and HALT writes neither. -/
theorem perform_ieReg_ifReg (f : Form) : (perform f s).ieReg = s.ieReg ∧ (perform f s).ifReg = s.ifReg := by
  by_cases hf : f = .halt
  · subst hf
    simp only [perform, haltCore]
    split <;> exact ⟨rfl, rfl⟩
  · have h : perform f s = (perform f s).withIrq s.ieReg s.ifReg := perform_withIrq s.ieReg s.ifReg hm f hf
    rw [h]; exact ⟨rfl, rfl⟩

end withIrq

end Sys2Proof.Machine
end

section
/-! SUPPORT. The machine's invariant in two halves: what no scheduler state enters, kept by every operation and host call, and what
the scheduler's own fields satisfy between the calls of an observation; then each part of a step makes them whole. -/

namespace Sys2Proof.Machine

/-- The clauses of `State.Inv` that speak of no scheduler state: every operation of the core and every host call keeps them. -/
structure DataInv (s : State) : Prop where
  memory : s.mem.wf = true
  flagsLow : LowClear s
  ifHigh : HighClear s
  breakpointSet : risingFrom 0 s.breakpoints = true
  shadowEnabled : s.eiShadow = true → s.ime = true
  repeatNeedsBug : s.haltRepeat = true → s.params.haltBug = true

/-- Every host call keeps the data half (R268 to R274, R280). -/
theorem DataInv.applyCall {s : State} (h : DataInv s) (c : HostCall) : DataInv (s.applyCall c) := by
  cases c with
  | reset =>
    exact ⟨h.memory, lowClear_applyCall s h.flagsLow .reset, (stable_applyCall s .reset).hi h.ifHigh, rfl,
      Bool.noConfusion, Bool.noConfusion⟩
  | addBreakpoint a => exact { h with breakpointSet := rising_add _ a 0 (Nat.zero_le _) h.breakpointSet }
  | removeBreakpoint a => exact { h with breakpointSet := rising_remove _ a 0 h.breakpointSet }
  | load a bytes =>
    simp only [State.applyCall, State.load]
    split
    · exact h
    · exact { h with memory := wf_placeBytes bytes _ a h.memory }
  | stop | pause | resume => simp only [State.applyCall]; split <;> exact { h with }
  | start d => simp only [State.applyCall, State.start]; split <;> exact { h with }
  | singleStep => simp only [State.applyCall, State.singleStep]; split <;> exact { h with }
  | setStickyStep b =>
    simp only [State.applyCall, State.setStickyStep]
    split
    · split <;> exact { h with }
    · exact h

/-- The clauses of `State.Inv` about the scheduler as they stand between the calls of one observation: a wait may have lost
`running`, and a step-advance may stand at the step-wait. -/
structure SessionInv (s : State) : Prop where
  fatalHalted : s.fatal.isSome = true ↔ s.sched = .halted
  runningInRun : s.running = true → s.inRun = true
  opcodeKnown : ∀ op, s.sched = .paused op ∨ s.sched = .stepping op → knownOpcode op = true
  sessionDiscarded :
    s.inRun = false → s.paused = false ∧ s.debugMode = false ∧ s.stepArmed = false ∧ s.stickyStep = false
  advanceStepping : s.advance = true → ∃ op, s.sched = .stepping op

theorem SessionInv.fatal_eq_none {s : State} (h : SessionInv s) (hs : s.sched ≠ .halted) : s.fatal = none :=
  Option.not_isSome_iff_eq_none.mp (mt h.fatalHalted.mp hs)

theorem State.sched_ne_halted_of_inRun {s : State} (h : s.inRun = true) : s.sched ≠ .halted := by
  intro hs; simp [State.inRun, hs] at h

/-- In a run the session bits are free. -/
theorem SessionInv.of_inRun {s : State} (hin : s.inRun = true) (hf : s.fatal = none)
    (hk : ∀ op, s.sched = .paused op ∨ s.sched = .stepping op → knownOpcode op = true)
    (ha : s.advance = true → ∃ op, s.sched = .stepping op) : SessionInv s where
  fatalHalted := by simp [hf, State.sched_ne_halted_of_inRun hin]
  runningInRun _ := hin
  opcodeKnown := hk
  sessionDiscarded hout := absurd (hin.symm.trans hout) Bool.noConfusion
  advanceStepping := ha

theorem SessionInv.of_running {s : State} (hs : s.sched = .running) (hf : s.fatal = none) (ha : s.advance = false) :
    SessionInv s :=
  .of_inRun (by simp [State.inRun, hs]) hf (by simp [hs]) (by simp [ha])

/-- Every host call keeps the session half (R268 to R274). -/
theorem SessionInv.applyCall {s : State} (h : SessionInv s) (c : HostCall) : SessionInv (s.applyCall c) := by
  have inRun : s.inRun = true → s.fatal = none := fun hin => h.fatal_eq_none (State.sched_ne_halted_of_inRun hin)
  cases c with
  | reset => constructor <;> simp [State.applyCall, State.resetSequence, State.clearSession, State.inRun]
  | addBreakpoint | removeBreakpoint => exact { h with }
  | load a bytes => simp only [State.applyCall, State.load]; split <;> exact { h with }
  | stop =>
    simp only [State.applyCall]
    split
    · exact { h with runningInRun := Bool.noConfusion }
    · exact h
  | pause | resume =>
    simp only [State.applyCall]
    split
    · rename_i hin
      exact .of_inRun hin (inRun hin) h.opcodeKnown h.advanceStepping
    · exact h
  | start d =>
    simp only [State.applyCall, State.start]
    split
    case h_1 hs | h_2 hs => exact .of_running rfl (h.fatal_eq_none (by simp [hs])) rfl
    all_goals exact h
  | singleStep =>
    simp only [State.applyCall, State.singleStep]
    split
    case h_1 op hs => exact { h with advanceStepping := fun _ => ⟨op, hs⟩ }
    case h_2 hs | h_3 hs =>
      exact .of_inRun (by simp [State.inRun, hs]) (h.fatal_eq_none (by simp [hs])) h.opcodeKnown h.advanceStepping
    all_goals exact h
  | setStickyStep b =>
    simp only [State.applyCall, State.setStickyStep]
    split
    · rename_i hin
      split <;> exact .of_inRun hin (inRun hin) h.opcodeKnown h.advanceStepping
    · exact h

theorem State.Inv.dataInv {s : State} (h : s.Inv) : DataInv s := { h with }

theorem State.Inv.sessionInv {s : State} (h : s.Inv) : SessionInv s :=
  { h with
    opcodeKnown := fun op hw => (h.waiting op hw).2
    advanceStepping := fun ha => absurd (h.advanceConsumed.symm.trans ha) Bool.noConfusion }

/-- The two halves make the invariant where a wait goes on and no step-advance is left. -/
theorem State.Inv.of_parts {s : State} (hd : DataInv s) (hs : SessionInv s)
    (hw : ∀ op, s.sched = .paused op ∨ s.sched = .stepping op → s.running = true) (ha : s.advance = false) : s.Inv :=
  { hd, hs with
    waiting := fun op h => ⟨hw op h, hs.opcodeKnown op h⟩
    advanceConsumed := ha }

/-- The two halves make the invariant outside the waits, where no step-advance can be left. -/
theorem State.Inv.of_noWait {s : State} (hd : DataInv s) (hs : SessionInv s)
    (hw : ∀ op, s.sched ≠ .paused op ∧ s.sched ≠ .stepping op) : s.Inv := by
  refine .of_parts hd hs (fun op h => ?_) (Bool.eq_false_iff.mpr fun ha => ?_)
  · exact h.elim (absurd · (hw op).1) (absurd · (hw op).2)
  · obtain ⟨op, h⟩ := hs.advanceStepping ha
    exact (hw op).2 h

/-- An observation keeps both halves (R281). -/
theorem observe_keeps_parts {s : State} (h : s.Inv) : DataInv s.observe ∧ SessionInv s.observe :=
  State.observe_induction (P := fun u => DataInv u ∧ SessionInv u)
    ⟨{ h.dataInv with }, { h.sessionInv with }⟩ (fun _ c hu => ⟨hu.1.applyCall c, hu.2.applyCall c⟩)


/-- Every form keeps the data half. -/
theorem DataInv.perform {s : State} (h : DataInv s) (f : Form) : DataInv (perform f s) := by
  have kept := perform_kept f s
  constructor
  case memory => exact (stable_perform f s).wf h.memory
  case flagsLow => exact lowClear_perform f s h.flagsLow
  case ifHigh => exact (stable_perform f s).hi h.ifHigh
  case breakpointSet => exact kept.bp ▸ h.breakpointSet
  case shadowEnabled =>
    by_cases hei : f = .ei
    · subst hei; exact fun _ => rfl
    by_cases hdi : f = .di
    · subst hdi; exact Bool.noConfusion
    by_cases hreti : f = .reti
    · subst hreti; exact fun _ => rfl
    rw [kept.ei hei hdi, kept.ime hei hdi hreti]; exact h.shadowEnabled
  case repeatNeedsBug =>
    rw [kept.params]
    by_cases hh : f = .halt
    · subst hh
      simp only [Machine.perform, haltCore]
      split
      · rename_i hbug; exact fun _ => hbug.1
      · exact h.repeatNeedsBug
    · rw [(kept.halt hh).2]; exact h.repeatNeedsBug

theorem State.Inv.emit {s : State} (h : s.Inv) (e : Event) : (s.emit e).Inv := { h with }

/-- An iteration is under way (60_exceptions.md R262): the run goes on, in no wait, with nothing fatal and no step-advance. -/
structure Iterating (s : State) : Prop where
  data : DataInv s
  sched : s.sched = .running
  running : s.running = true
  fatal : s.fatal = none
  advance : s.advance = false

namespace Iterating

variable {s : State}

theorem inv (h : Iterating s) : s.Inv :=
  .of_noWait h.data (.of_running h.sched h.fatal h.advance) (by simp [h.sched])

/-- A wait that an iteration enters keeps its opcode, which is decodable (R266, R267). -/
theorem inv_of_wait (h : Iterating s) {op : Byte} (hk : knownOpcode op = true) {w : Sched}
    (hw : w = .paused op ∨ w = .stepping op) : State.Inv { s with sched := w } := by
  have hop : ∀ o, w = .paused o ∨ w = .stepping o → knownOpcode o = true := by
    rcases hw with rfl | rfl <;> simp [hk]
  refine .of_parts { h.data with } (.of_inRun ?_ h.fatal hop ?_) (fun _ _ => h.running) h.advance
  · rcases hw with rfl | rfl <;> rfl
  · exact fun ha => absurd (h.advance.symm.trans ha) Bool.noConfusion

theorem emit (h : Iterating s) (e : Event) : Iterating (s.emit e) := { h with data := { h.data with } }

theorem noteRead (h : Iterating s) (a : Word) : Iterating (s.noteRead a) := by
  rw [State.noteRead_requests]; exact { h with data := { h.data with } }

theorem afterFetch (h : Iterating s) (e : Entry) : Iterating (s.afterFetch e) := by
  rw [State.afterFetch_eq]
  exact { h with data := { h.data with repeatNeedsBug := Bool.noConfusion } }

theorem checkBreakpoint_armSticky (h : Iterating s) : Iterating s.checkBreakpoint.armSticky := by
  rw [State.checkBreakpoint_armSticky]; exact { h with data := { h.data with } }

theorem sampleIrq (h : Iterating s) : Iterating s.sampleIrq := by
  unfold State.sampleIrq
  split
  · exact h
  · rename_i irq later _
    have low : ∀ irq : BitVec 5, irq.setWidth 8 &&& 0xE0#8 = 0 := by decide
    have high : (s.ifReg ||| irq.setWidth 8) &&& 0xE0#8 = 0 := by
      rw [BitVec.and_or_distrib_right, low, h.data.ifHigh]; rfl
    exact { h with data := { h.data with ifHigh := high } }

theorem wake (h : Iterating s) : Iterating s.wake := by
  unfold State.wake
  split
  · exact { h with data := { h.data with } }
  · exact h

theorem leaveBoundary (h : Iterating s) : Iterating s.leaveBoundary := by
  unfold State.leaveBoundary
  rcases s.dispatch_cases with e | ⟨t, e⟩ <;> rw [e]
  · exact { h with data := { h.data with shadowEnabled := Bool.noConfusion } }
  · have stable := stable_enterInterrupt s t
    have wf := stable.wf h.data.memory
    have hi := stable.hi h.data.ifHigh
    rw [State.enterInterrupt_eq]
    exact { h with data := { h.data with memory := wf, ifHigh := hi, shadowEnabled := Bool.noConfusion } }

theorem commit_inv {op : Byte} {t : State} (h : Iterating s) (hk : knownOpcode op = true) (hc : commit op s = .next t) :
    t.Inv := by
  have hf := h.afterFetch (primary op)
  unfold commit at hc
  simp only at hc
  split at hc
  · cases hc; exact ((hf.emit _).emit _).inv
  · simp only [exec_eq_perform] at hc
    cases hc
    have kept := perform_kept (s.fetchInstr (primary op) s.pc).form (s.afterFetch (primary op))
    obtain ⟨hsched, hfatal, -, -, -, -, -, hadvance, -⟩ := kept.rest (fetchInstr_known hk s s.pc)
    have hs := SessionInv.of_running (hsched.trans hf.sched) (hfatal.trans hf.fatal) (hadvance.trans hf.advance)
    exact State.Inv.emit (.of_noWait (hf.data.perform _) hs (by simp [hsched, hf.sched])) _

theorem debugStage_inv {op : Byte} {t : State} (h : Iterating s) (hk : knownOpcode op = true)
    (hc : debugStage op s = .next t) : t.Inv := by
  unfold debugStage at hc
  split at hc
  · cases hc; exact h.inv_of_wait hk (.inr rfl)
  · exact h.commit_inv hk hc

theorem traceStage_inv {op : Byte} {t : State} (h : Iterating s) (hk : knownOpcode op = true)
    (hc : traceStage op s = .next t) : t.Inv := by
  unfold traceStage at hc
  simp only at hc
  split at hc
  · cases hc; exact (h.emit _).inv_of_wait hk (.inl rfl)
  · exact (h.emit _).debugStage_inv hk hc

/-- DecodeError ends the run in Halted(fatal) with the session discarded (R240, R278). -/
theorem raiseDecodeError_inv (h : Iterating s) (op : Byte) : (s.raiseDecodeError op).Inv := by
  have hs : SessionInv (s.raiseDecodeError op) := by
    constructor <;> simp [State.raiseDecodeError, State.clearSession, State.emit]
  exact .of_noWait (h.data.perform (.unknown op)) hs (by simp [State.raiseDecodeError])

theorem iterate_inv {t : State} (h : Iterating s) (hc : iterate s = .next t) : t.Inv := by
  have hu := (h.checkBreakpoint_armSticky).noteRead s.checkBreakpoint.armSticky.pc
  unfold iterate at hc
  simp only at hc
  split at hc
  case h_1 i hp =>
    have he := primary_encodes (s.checkBreakpoint.armSticky.peek s.checkBreakpoint.armSticky.pc)
    rw [hp] at he
    rw [exec_eq_perform, he.2.2] at hc
    cases hc
    exact hu.raiseDecodeError_inv _
  all_goals
    rename_i hp
    exact hu.traceStage_inv (knownOpcode_of (by simp [hp])) hc

end Iterating

/-- The exit from the loop discards the session (R278); where a Reset was applied it is discarded already. -/
theorem exitLoop_inv {s : State} (hd : DataInv s) (hs : SessionInv s) (hr : s.running = false)
    (hh : s.sched ≠ .halted) : s.exitLoop.Inv := by
  unfold State.exitLoop
  split
  · rename_i hidle
    exact .of_noWait hd hs (by simp [hidle])
  · refine .of_noWait { hd with } ⟨?_, ?_, ?_, ?_, ?_⟩ (by simp)
    · simp [hs.fatal_eq_none hh]
    · simp [hr]
    · simp
    · exact fun _ => ⟨rfl, rfl, rfl, rfl⟩
    · exact Bool.noConfusion

theorem boundary_inv {s t : State} (hd : DataInv s) (hs : SessionInv s)
    (hw : s.sched = .idle ∨ s.sched = .running) (hb : boundary s = .next t) : t.Inv := by
  unfold boundary at hb
  split at hb
  · rename_i hr
    have hrun : s.sched = .running := hw.resolve_left fun hi => by simpa [State.inRun, hi] using hs.runningInRun hr
    have ha : s.advance = false := Bool.eq_false_iff.mpr fun ha => by simpa [hrun] using hs.advanceStepping ha
    have hit : Iterating s := ⟨hd, hrun, hr, hs.fatal_eq_none (by simp [hrun]), ha⟩
    simp only at hb
    split at hb
    · cases hb; exact hit.sampleIrq.wake.inv
    · exact hit.sampleIrq.wake.leaveBoundary.iterate_inv hb
  · rename_i hr
    cases hb
    exact exitLoop_inv hd hs (by simpa using hr) (by rcases hw with h | h <;> simp [h])

theorem pausePoll_inv {op : Byte} {s t : State} (hk : knownOpcode op = true) (hd : DataInv s) (hs : SessionInv s)
    (hw : s.sched = .paused op ∨ s.sched = .idle ∨ s.sched = .running) (hp : pausePoll op s = .next t) : t.Inv := by
  unfold pausePoll at hp
  split at hp
  · rename_i o hsched
    have ha : s.advance = false := Bool.eq_false_iff.mpr fun ha => by simpa [hsched] using hs.advanceStepping ha
    have hf : s.fatal = none := hs.fatal_eq_none (by simp [hsched])
    split at hp
    · rename_i hr
      split at hp
      · cases hp; exact .of_parts hd hs (fun _ _ => hr) ha
      · have hit : Iterating { s with sched := .running } := ⟨{ hd with }, rfl, hr, hf, ha⟩
        exact hit.debugStage_inv hk hp
    · rename_i hr
      cases hp
      exact exitLoop_inv hd hs (by simpa using hr) (by simp [hsched])
  · rename_i hne
    cases hp
    exact .of_noWait hd hs (by rcases hw.resolve_left (hne op) with h | h <;> simp [h])

theorem stepPoll_inv {op : Byte} {s t : State} (hk : knownOpcode op = true) (hd : DataInv s) (hs : SessionInv s)
    (hw : s.sched = .stepping op ∨ s.sched = .idle ∨ s.sched = .running) (hp : stepPoll op s = .next t) : t.Inv := by
  unfold stepPoll at hp
  split at hp
  · rename_i o hsched
    have hf : s.fatal = none := hs.fatal_eq_none (by simp [hsched])
    split at hp
    · rename_i hr
      split at hp
      · refine Iterating.commit_inv ?_ hk hp
        exact ⟨{ hd with }, rfl, hr, hf, rfl⟩
      · rename_i ha
        cases hp; exact .of_parts hd hs (fun _ _ => hr) (by simpa using ha)
    · rename_i hr
      cases hp
      exact exitLoop_inv hd hs (by simpa using hr) (by simp [hsched])
  · rename_i hne
    cases hp
    exact .of_noWait hd hs (by rcases hw.resolve_left (hne op) with h | h <;> simp [h])

/-- Outside a run a step is one observation, after which no wait stands. -/
theorem observe_inv {s : State} (h : s.Inv) (hout : s.inRun = false) : s.observe.Inv := by
  obtain ⟨hd, hs⟩ := observe_keeps_parts h
  refine .of_noWait hd hs (fun op => ?_)
  rcases s.sched_observe with e | e | e <;> rw [e]
  · constructor <;> intro hw <;> simp [State.inRun, hw] at hout
  · simp
  · simp

end Sys2Proof.Machine
end

section
/-! SUPPORT. The statements of 10_state.md, settled. -/

namespace Sys2Proof.Machine

/-- Settles O47: an observation keeps the invariant's two halves, and each part of the scheduler makes them whole again. -/
theorem stepKeepsTheInvariant : Obligations.StepKeepsTheInvariant := by
  unfold Obligations.StepKeepsTheInvariant
  intro s t h hstep
  obtain ⟨hd, hs⟩ := observe_keeps_parts h
  have hw := s.sched_observe
  unfold step schedulerStep at hstep
  split at hstep <;> rename_i hsched <;> rw [hsched] at hw
  case h_1 | h_2 | h_3 => cases hstep; exact observe_inv h (by simp [State.inRun, hsched])
  case h_4 => exact boundary_inv hd hs (hw.elim .inr id) hstep
  case h_5 => exact pausePoll_inv (h.waiting _ (.inl hsched)).2 hd hs hw hstep
  case h_6 => exact stepPoll_inv (h.waiting _ (.inr hsched)).2 hd hs hw hstep

/-- Settles O35: each view is a half of its pair, AF's low one masked. -/
theorem byteViewWritesChangeOneByte : Obligations.ByteViewWritesChangeOneByte := by
  unfold Obligations.ByteViewWritesChangeOneByte
  intro r rr v w s
  refine ⟨⟨rfl, rfl, rfl, rfl, rfl, rfl, rfl⟩, s.writeReg_readReg_same r v,
    fun q hq => s.writeReg_readReg_other r q v hq, s.writeReg_regF r v, ⟨_, rfl, s.writeReg_eq r v⟩, ?reads,
    ⟨s.writePair_same rr w, fun q hq => s.writePair_other rr q w hq, ?_, ?_, ?_, ?_⟩, ?af, s.push16_stores s.pc⟩
  case reads =>
    exact ⟨(joinBytes_hiByte_loByte s.bc).symm, (joinBytes_hiByte_loByte s.de).symm, (joinBytes_hiByte_loByte s.hl).symm,
      rfl, s.regAF_eq⟩
  case af =>
    exact ⟨_, rfl, rfl, hiByte_mask w, s.setAF_flag w .z, s.setAF_flag w .n, s.setAF_flag w .h, s.setAF_flag w .c⟩
  case refine_4 => rintro rfl; rfl
  all_goals rintro rfl; exact ⟨rfl, rfl, rfl⟩

/-- Settles O36: both primitives write one flag through F's four bits. -/
theorem flagPrimitivesTouchOneFlag : Obligations.FlagPrimitivesTouchOneFlag := by
  unfold Obligations.FlagPrimitivesTouchOneFlag
  intro f s
  refine ⟨⟨rfl, rfl, rfl, rfl⟩, fun b t ht => ?_⟩
  obtain rfl : t = s.writeFlags (.only f b) := by rcases ht with ⟨rfl, rfl⟩ | ⟨rfl, rfl⟩ <;> rfl
  exact ⟨s.writeOnly_flag_same f b, fun g hg => s.writeOnly_flag_other b hg, s.writeFlags_readReg _ .a,
    State.regF_low _, rfl⟩

/-- Settles O54: EI, DI and RETI leave the state that Dispatch reads, and a boundary is its parts in order. -/
theorem eiDelaysDispatchByOneInstruction : Obligations.EiDelaysDispatchByOneInstruction := by
  unfold Obligations.EiDelaysDispatchByOneInstruction
  intro s t
  refine ⟨fun h => ?ei, fun h => ?di, fun h hd he hp => ?reti, fun hs => ⟨fun hr => ?leaves, fun hr ht => ?goesOn,
    fun hr hc hd he v hv => ?takes⟩⟩
  case ei =>
    obtain rfl : enableInterrupts s = t := by injection h
    rw [State.leaveBoundary_none (.inr (.inl rfl))]
    exact ⟨rfl, rfl⟩
  case di =>
    obtain rfl : disableInterrupts s = t := by injection h
    rw [State.leaveBoundary_none (.inr (.inr rfl))]
    rfl
  case reti =>
    obtain rfl : s.returnFromInterrupt = t := by injection h
    have hp' : s.returnFromInterrupt.pendingMask ≠ 0 := by
      simpa [State.returnFromInterrupt, State.pendingMask, Config.irqMask] using hp
    have hd' : s.returnFromInterrupt.params.dispatch = .sm83 := by simpa [State.returnFromInterrupt] using hd
    have he' : s.returnFromInterrupt.eiShadow = false := by simpa [State.returnFromInterrupt] using he
    rw [State.leaveBoundary_takes hd' he' (State.pollPending_of_pending rfl hp'), State.enterInterrupt_eq]
    exact ⟨rfl, by simp [State.returnFromInterrupt]⟩
  case leaves => simp [step_of_running hs, boundary, hr]
  case goesOn =>
    subst ht
    rw [step_of_running hs, boundary_of_running hr]
    exact ⟨fun hw => if_pos hw, fun hw => if_neg (by simp [hw])⟩
  case takes =>
    have hw : s.sampleIrq.wake.haltWait = false := State.wake_haltWait_of_pending (State.pollPending_eq_some hv).2
    have hv' : s.sampleIrq.wake.pollPending = some v := by rw [State.wake_eq]; exact hv
    have hd' : s.sampleIrq.wake.params.dispatch = .sm83 := by rw [State.wake_eq, State.sampleIrq_eq]; exact hd
    have he' : s.sampleIrq.wake.eiShadow = false := by rw [State.wake_eq, State.sampleIrq_eq]; exact he
    have hsp : s.sampleIrq.wake.sp = s.sp := by rw [State.wake_eq, State.sampleIrq_eq]
    rw [step_of_running hs, State.observe_of_noCalls hc, boundary_of_running hr]
    refine ⟨_, if_neg (by simp [hw]), ?_⟩
    rw [State.leaveBoundary_takes hd' he' hv', State.enterInterrupt_eq]
    exact ⟨rfl, rfl, congrArg (· - 2) hsp, rfl⟩

/-- Settles O56: an instruction keeps what its form keeps, and EI, DI, RETI, HALT and STOP are alone in theirs. -/
theorem instructionsKeepTheControlState : Obligations.InstructionsKeepTheControlState := by
  unfold Obligations.InstructionsKeepTheControlState
  intro i s t h
  rw [exec_eq_perform] at h
  cases h
  have kept := perform_kept i.form s
  refine ⟨fun hei hdi hreti => kept.ime (Instr.form_ne hei rfl) (Instr.form_ne hdi rfl) (Instr.form_ne hreti rfl),
    fun hei hdi => kept.ei (Instr.form_ne hei rfl) (Instr.form_ne hdi rfl), fun hh => kept.halt (Instr.form_ne hh rfl),
    kept.bp, kept.hc, kept.irqs, kept.params, fun hu => ?_⟩
  obtain ⟨h1, h2, h3, h4, h5, h6, h7, h8, h9⟩ := kept.rest hu
  exact ⟨h1, h2, h3, h4, h5, h6, h7, h8, fun hn => h9 fun n => Instr.form_ne (hn n) rfl⟩

/-- Settles O57: unmapped, what an instruction does commutes with setting IE and IF. -/
theorem unmappedIeIfAreUnreachable : Obligations.UnmappedIeIfAreUnreachable := by
  unfold Obligations.UnmappedIeIfAreUnreachable
  intro i s t x y hm h
  rw [exec_eq_perform] at h
  cases h
  refine ⟨(perform_ieReg_ifReg hm i.form).1, (perform_ieReg_ifReg hm i.form).2, fun hi => ?_⟩
  rw [exec_eq_perform]
  exact congrArg _ (perform_withIrq x y hm i.form (Instr.form_ne hi rfl))

/-- Settles O58: the forms R29 lists keep the flags, INC r8 and DEC r8 give C no value, and every write of AF is masked. -/
theorem whatMayWriteTheFlagRegister : Obligations.WhatMayWriteTheFlagRegister := by
  unfold Obligations.WhatMayWriteTheFlagRegister
  intro i s t h
  rw [exec_eq_perform] at h
  cases h
  generalize i.form = f
  refine ⟨fun hf => flagsKept_perform f s (Bool.eq_false_iff.mpr fun hw => ?_), ?_, s.regF_low, and_low_mask s.af,
    fun hl => ⟨lowClear_perform f s hl, fun c => lowClear_applyCall s hl c⟩⟩
  · unfold Form.writesFlags at hw
    split at hw
    case h_20 => cases hw
    all_goals exact hf
  · rintro ⟨dst, rfl | rfl⟩
    · exact (modifyLoc_done increment dst s).c
    · exact (modifyLoc_done decrement dst s).c

/-- Settles O44: each value is the definition's. -/
theorem resetStateValues : Obligations.ResetStateValues := by
  unfold Obligations.ResetStateValues
  decide

/-- The invariant holds after Reset (R291). -/
theorem State.inv_reset : State.reset.Inv where
  memory := rfl
  flagsLow := rfl
  ifHigh := rfl
  breakpointSet := rfl
  shadowEnabled := Bool.noConfusion
  repeatNeedsBug := Bool.noConfusion
  fatalHalted := by decide
  runningInRun := Bool.noConfusion
  waiting := by simp [State.reset]
  sessionDiscarded _ := ⟨rfl, rfl, rfl, rfl⟩
  advanceConsumed := rfl

/-- Settles O46: power-up differs from reset in AF alone, and its F[3:0] is zero too. -/
theorem invariantAtReset : Obligations.InvariantAtReset := by
  unfold Obligations.InvariantAtReset
  exact ⟨State.inv_reset, { State.inv_reset with flagsLow := rfl }⟩

end Sys2Proof.Machine
end

section
/-! SUPPORT. Canonical memories that read alike are equal, and what a core access does where it is routed to the Memory Unit (20_memory.md
R51, R71). -/

namespace Sys2Proof.Machine

theorem Memory.wfFrom_cons {lo k : Nat} {v : Byte} {rest : Memory} :
    Memory.wfFrom lo ((k, v) :: rest) = true ↔
      lo ≤ k ∧ k < 65536 ∧ v ≠ Memory.unlisted ∧ Memory.wfFrom (k + 1) rest = true := by
  simp [Memory.wfFrom, and_assoc]

/-- A canonical memory that reads as one whose first cell is at k lists nothing that forces a bound above k. -/
theorem Memory.bound_le_of_read_eq {lo k : Nat} {v : Byte} {rest m : Memory} (hv : v ≠ Memory.unlisted)
    (hm : Memory.wfFrom lo m = true) (hr : Memory.read ((k, v) :: rest) k = m.read k) : lo ≤ k := by
  by_contra hlt
  rw [Memory.read_below hm (not_le.mp hlt), Memory.read, if_pos rfl] at hr
  exact hv hr

/-- Canonical memories that read alike are the same list: their first cells agree, and so do the rests. -/
theorem Memory.eq_of_read_eq {m m' : Memory} {lo lo' : Nat} (hm : Memory.wfFrom lo m = true)
    (hm' : Memory.wfFrom lo' m' = true) (hr : ∀ a, m.read a = m'.read a) : m = m' := by
  induction m generalizing m' lo lo' with
  | nil =>
    cases m' with
    | nil => rfl
    | cons c' rest' =>
      obtain ⟨k', v'⟩ := c'
      obtain ⟨-, -, hv', -⟩ := Memory.wfFrom_cons.mp hm'
      exact absurd (Memory.bound_le_of_read_eq (lo := k' + 1) (m := []) hv' rfl (hr k').symm) (by omega)
  | cons c rest ih =>
    obtain ⟨k, v⟩ := c
    obtain ⟨-, hk, hv, hrest⟩ := Memory.wfFrom_cons.mp hm
    cases m' with
    | nil => exact absurd (Memory.bound_le_of_read_eq (lo := k + 1) (m := []) hv rfl (hr k)) (by omega)
    | cons c' rest' =>
      obtain ⟨k', v'⟩ := c'
      obtain ⟨-, hk', hv', hrest'⟩ := Memory.wfFrom_cons.mp hm'
      have le : k' ≤ k :=
        Memory.bound_le_of_read_eq hv (Memory.wfFrom_cons.mpr ⟨le_rfl, hk', hv', hrest'⟩) (hr k)
      have ge : k ≤ k' :=
        Memory.bound_le_of_read_eq hv' (Memory.wfFrom_cons.mpr ⟨le_rfl, hk, hv, hrest⟩) (hr k').symm
      obtain rfl : k = k' := le_antisymm ge le
      obtain rfl : v = v' := by simpa [Memory.read] using hr k
      refine congrArg _ (ih hrest hrest' fun a => ?_)
      by_cases ha : k = a
      · rw [Memory.read_below hrest (by omega), Memory.read_below hrest' (by omega)]
      · simpa [Memory.read, ha] using hr a

theorem Memory.store_eq (m : Memory) (kind : RegionKind) (a : Nat) (v : Byte) :
    m.store kind a v = if kind = .ram then m.write a v else m := by
  cases kind <;> rfl

/-- A core read that is not routed to IE or IF (R51, R71). -/
theorem State.peek_plain {s : State} {a : Word} (he : s.reachesIE a = false) (hf : s.reachesIF a = false) :
    s.peek a = if s.kind a = .external then Config.memoryUnit s.bus a else s.mem.read a.toNat := by
  simp only [State.peek, he, hf]
  cases s.kind a <;> rfl

end Sys2Proof.Machine
end

section
/-! SUPPORT. Byte stores at two addresses in either order: what each leaves in memory, IE and IF, and that the core cannot tell the two
orders apart but by the requests (20_memory.md R55, R66; 92_eei_decisions.md D18). -/

namespace Sys2Proof.Machine

/-- IE and IF are two addresses. -/
theorem State.reachesIE_of_reachesIF {s : State} {a : Word} (hf : s.reachesIF a = true) : s.reachesIE a = false := by
  rw [Bool.eq_false_iff]
  intro he
  exact absurd (((s.reachesIE_iff a).mp he).2.symm.trans ((s.reachesIF_iff a).mp hf).2) (by decide)

/-- A core write at a stores its byte in the cell k of memory. -/
def State.writesCell (s : State) (a : Word) (k : Nat) : Bool :=
  !s.reachesIE a && !s.reachesIF a && decide (s.kind a = .ram) && decide (k = a.toNat)

theorem State.writesCell_congr {s t : State} (h : t.params = s.params) (a : Word) (k : Nat) :
    t.writesCell a k = s.writesCell a k := by
  simp only [State.writesCell, State.reachesIE_congr h, State.reachesIF_congr h, State.kind_congr h]

theorem State.writeByte_ieReg (s : State) (a : Word) (v : Byte) (c : WriteCall) :
    (s.writeByte a v c).ieReg = if s.reachesIE a then v else s.ieReg := by
  unfold State.writeByte
  split
  · rfl
  · split <;> rfl

theorem State.writeByte_ifReg (s : State) (a : Word) (v : Byte) (c : WriteCall) :
    (s.writeByte a v c).ifReg = if s.reachesIF a then v &&& Config.irqMask else s.ifReg := by
  cases hf : s.reachesIF a with
  | true => simp [State.writeByte_if s a v c (State.reachesIE_of_reachesIF hf) hf]
  | false => cases he : s.reachesIE a <;> simp [State.writeByte, he, hf]

theorem State.writeByte_mem_read (s : State) (a : Word) (v : Byte) (c : WriteCall) (k : Nat) :
    (s.writeByte a v c).mem.read k = if s.writesCell a k then v else s.mem.read k := by
  cases he : s.reachesIE a with
  | true => simp [State.writeByte_ie s a v c he, State.writesCell, he]
  | false =>
    cases hf : s.reachesIF a with
    | true => simp [State.writeByte_if s a v c he hf, State.writesCell, hf]
    | false =>
      by_cases hk : s.kind a = .ram
      · by_cases hka : k = a.toNat
        · simp [State.writeByte_plain s a v c he hf, State.writesCell, he, hf, hk, hka, Memory.store_eq]
        · simp [State.writeByte_plain s a v c he hf, State.writesCell, hk, hka, Memory.store_eq, Memory.read_write_other]
      · simp [State.writeByte_mem_outside s a v c hk, State.writesCell, hk]

/-- Two states that the core's own reads and writes find the same: the same routing, map of regions, IE and IF, and the same byte in
every cell of memory. The requests may differ. -/
structure ReadsAlike (s t : State) : Prop where
  map : t.params.memoryMap = s.params.memoryMap
  mapped : t.params.ieIfMapped = s.params.ieIfMapped
  ieReg : t.ieReg = s.ieReg
  ifReg : t.ifReg = s.ifReg
  cell : ∀ k, t.mem.read k = s.mem.read k

namespace ReadsAlike

variable {s t : State}

theorem symm (h : ReadsAlike s t) : ReadsAlike t s :=
  ⟨h.map.symm, h.mapped.symm, h.ieReg.symm, h.ifReg.symm, fun k => (h.cell k).symm⟩

theorem trans {u : State} (h : ReadsAlike s t) (h' : ReadsAlike t u) : ReadsAlike s u :=
  ⟨h'.map.trans h.map, h'.mapped.trans h.mapped, h'.ieReg.trans h.ieReg, h'.ifReg.trans h.ifReg,
    fun k => (h'.cell k).trans (h.cell k)⟩

theorem reachesIE (h : ReadsAlike s t) (a : Word) : t.reachesIE a = s.reachesIE a := by
  simp only [State.reachesIE, h.mapped]

theorem reachesIF (h : ReadsAlike s t) (a : Word) : t.reachesIF a = s.reachesIF a := by
  simp only [State.reachesIF, h.mapped]

theorem kind (h : ReadsAlike s t) (a : Word) : t.kind a = s.kind a := by
  simp only [State.kind, h.map]

theorem external (h : ReadsAlike s t) (a : Word) : t.external a = s.external a := by
  simp only [State.external, h.reachesIE, h.reachesIF, h.kind]

theorem writesCell (h : ReadsAlike s t) (a : Word) (k : Nat) : t.writesCell a k = s.writesCell a k := by
  simp only [State.writesCell, h.reachesIE, h.reachesIF, h.kind]

theorem peek (h : ReadsAlike s t) {b : Word} (hx : s.external b = false) : t.peek b = s.peek b := by
  rw [State.peek_inside hx, State.peek_inside ((h.external b).trans hx), h.reachesIE, h.reachesIF, h.ieReg, h.ifReg, h.cell]

/-- The same byte store on both sides. -/
theorem writeByte (h : ReadsAlike s t) (a : Word) (v : Byte) (c : WriteCall) :
    ReadsAlike (s.writeByte a v c) (t.writeByte a v c) where
  map := by simp [h.map]
  mapped := by simp [h.mapped]
  ieReg := by rw [State.writeByte_ieReg, State.writeByte_ieReg, h.reachesIE, h.ieReg]
  ifReg := by rw [State.writeByte_ifReg, State.writeByte_ifReg, h.reachesIF, h.ifReg]
  cell k := by rw [State.writeByte_mem_read, State.writeByte_mem_read, h.writesCell, h.cell]

end ReadsAlike

/-- Two byte stores at different addresses change different cells or registers, so their order is not seen. -/
theorem State.writeByte_swap (s : State) {a b : Word} (v w : Byte) (c : WriteCall) (hne : a ≠ b) :
    ReadsAlike ((s.writeByte a v c).writeByte b w c) ((s.writeByte b w c).writeByte a v c) where
  map := by simp
  mapped := by simp
  ieReg := by
    simp only [State.writeByte_ieReg, State.reachesIE_congr (State.writeByte_params s _ _ _)]
    refine ite_ite_comm _ _ _ _ fun ha hb => hne ?_
    exact ((s.reachesIE_iff a).mp ha).2.trans ((s.reachesIE_iff b).mp hb).2.symm
  ifReg := by
    simp only [State.writeByte_ifReg, State.reachesIF_congr (State.writeByte_params s _ _ _)]
    refine ite_ite_comm _ _ _ _ fun ha hb => hne ?_
    exact ((s.reachesIF_iff a).mp ha).2.trans ((s.reachesIF_iff b).mp hb).2.symm
  cell k := by
    simp only [State.writeByte_mem_read, State.writesCell_congr (State.writeByte_params s _ _ _)]
    refine ite_ite_comm _ _ _ _ fun ha hb => hne (BitVec.eq_of_toNat_eq ?_)
    simp only [State.writesCell, Bool.and_eq_true, decide_eq_true_eq] at ha hb
    exact ha.2.symm.trans hb.2

/-- Whatever P_SHORT_WRITE_ORDER is, a WriteShort leaves what the low byte's store and then the high byte's leave. -/
theorem State.writeShort_lowFirst (s : State) (a v : Word) :
    ReadsAlike ((s.writeByte a (loByte v) .short).writeByte (a + 1) (hiByte v) .short) (s.writeShort a v) := by
  unfold State.writeShort
  split
  · exact ⟨rfl, rfl, rfl, rfl, fun _ => rfl⟩
  · exact s.writeByte_swap _ _ _ (word_ne_succ a)

/-- The same WriteShort on both sides, in whichever order each side makes its two byte writes (D18). -/
theorem ReadsAlike.writeShort {s t : State} (h : ReadsAlike s t) (a v : Word) :
    ReadsAlike (s.writeShort a v) (t.writeShort a v) :=
  (s.writeShort_lowFirst a v).symm.trans (((h.writeByte _ _ _).writeByte _ _ _).trans (t.writeShort_lowFirst a v))

theorem State.readsAlike_withShortOrder (s : State) (o : ShortWriteOrder) :
    ReadsAlike s { s with params := { s.params with shortWriteOrder := o } } :=
  ⟨rfl, rfl, rfl, rfl, fun _ => rfl⟩

end Sys2Proof.Machine
end

section
/-! SUPPORT. The statements of 20_memory.md, settled. -/

namespace Sys2Proof.Machine

/-- Settles O37: the cells are the laws of the list, and an access that is not routed goes by the kind of its region. -/
theorem memoryReadsWhatWasWritten : Obligations.MemoryReadsWhatWasWritten := by
  unfold Obligations.MemoryReadsWhatWasWritten
  refine ⟨fun m a b v => ⟨m.read_write_same a v, m.read_write_other a b v, fun hm ha => Memory.wf_write v ha hm⟩,
    fun m m' hm hm' hr => Memory.eq_of_read_eq hm hm' hr, fun s a v he hf => ⟨State.peek_plain he hf, ?write, ?flat⟩⟩
  case write => rw [State.writeByte_plain s a v .byte he hf, Memory.store_eq]
  case flat => exact fun hmap => by simp [State.kind, hmap, kindIn]

/-- Settles O38: the two byte writes of a WriteShort are at different addresses, so only the requests show their order. -/
theorem shortWritesAreLittleEndian : Obligations.ShortWritesAreLittleEndian := by
  unfold Obligations.ShortWritesAreLittleEndian
  rintro s t u a v o rfl rfl
  have alike := (s.readsAlike_withShortOrder o).writeShort a v
  refine ⟨s.writeShort_stores a v, s.writeShort_requests a v, s.writeShort_mem_outside a v, fun b hb => ?peek,
    alike.ieReg, alike.ifReg, alike.cell, ?bus⟩
  case peek => exact alike.peek ((State.external_congr (by simp) b).trans hb)
  case bus =>
    rw [State.writeShort_requests]
    cases o <;> rfl

end Sys2Proof.Machine
end

section
/-! SUPPORT. The decoder and the encoder as inverses: a word is read back from its two bytes, the terms that are read back as
themselves, and what the decoder can answer for a first byte (30_encoding.md R73 to R76, R85 to R88). -/

namespace Sys2Proof

/-- An opcode that takes a word reads that word's bytes back, low byte first (R76). -/
theorem decode_imm16 {op : Byte} {make : Word → Instr} (h : primary op = .imm16 make) (nn : Word) (rest : List Byte) :
    decode (op :: loByte nn :: hiByte nn :: rest) = .ok (make nn, rest) := by
  simp only [decode, h, joinBytes_hiByte_loByte]

/-- Each row's bit pattern is where the maps list the row, so the decoder takes the same operand bytes: a word is put
together again from its two, and any other operand is read as it stands. -/
theorem decode_encode_append (i : Instr) (rest : List Byte) : decode (encode i ++ rest) = .ok (i.canon, rest) := by
  cases i
  all_goals dsimp only [encode, Instr.form, Form.opcode]
  case ldBcD16 nn | ldDeD16 nn | ldHlD16 nn | ldSpD16 nn | ldAtA16Sp nn | ldAtA16A nn | ldAAtA16 nn | jpA16 nn | jpNzA16 nn
      | jpZA16 nn | jpNcA16 nn | jpCA16 nn | callA16 nn | callNzA16 nn | callZA16 nn | callNcA16 nn | callCA16 nn =>
    exact decode_imm16 rfl nn rest
  all_goals rfl

/-- The PREFIX CB term alone is not well-formed (R86; log entry 9). -/
theorem Instr.wellFormed_iff (i : Instr) : i.wellFormed = true ↔ ∀ n, i ≠ .prefixCb n := by
  unfold Instr.wellFormed
  split
  case h_1 n => exact iff_of_false Bool.false_ne_true fun hne => hne n rfl
  case h_2 hne => exact iff_of_true rfl hne

/-- What the decoder makes of an encoding is never the PREFIX CB term (R86). -/
theorem Instr.wellFormed_canon (i : Instr) : i.canon.wellFormed = true := by
  unfold Instr.canon
  split
  case h_1 n => exact wellFormed_cbEntry n
  case h_2 hne => exact i.wellFormed_iff.mpr hne

theorem Instr.wellFormed_iff_canon (i : Instr) : i.wellFormed = true ↔ i.canon = i := by
  refine ⟨fun hw => ?_, fun hc => hc ▸ i.wellFormed_canon⟩
  unfold Instr.canon
  split
  · cases hw
  · rfl

/-- What the decoder can answer for a first byte: the instruction that the bytes it takes encode, or that the bytes end
inside the operand (R73, R74, R76). -/
theorem decode_cons (op : Byte) (bytes : List Byte) :
    (∃ i operand rest, decode (op :: bytes) = .ok (i, rest) ∧ bytes = operand ++ rest ∧ encode i = op :: operand ∧
      i.wellFormed = true) ∨
    (decode (op :: bytes) = .error (.truncated op) ∧ bytes.length < (primary op).operandCount) := by
  have he := primary_encodes op
  cases hp : primary op <;> rw [hp] at he
  case bare i | unknown i =>
    obtain ⟨henc, hw, -⟩ := he
    exact .inl ⟨i, [], bytes, by simp only [decode, hp], rfl, henc, hw⟩
  case imm8 make =>
    match bytes with
    | [] => exact .inr ⟨by simp only [decode, hp], Nat.zero_lt_one⟩
    | n :: rest =>
      obtain ⟨henc, hw, -⟩ := he n
      exact .inl ⟨make n, [n], rest, by simp only [decode, hp], rfl, henc, hw⟩
  case imm16 make =>
    match bytes with
    | [] => exact .inr ⟨by simp only [decode, hp], Nat.zero_lt_two⟩
    | [_] => exact .inr ⟨by simp only [decode, hp], Nat.one_lt_two⟩
    | lo :: hi :: rest =>
      obtain ⟨henc, hw, -⟩ := he (joinBytes hi lo)
      rw [loByte_joinBytes, hiByte_joinBytes] at henc
      exact .inl ⟨make (joinBytes hi lo), [lo, hi], rest, by simp only [decode, hp], rfl, henc, hw⟩

end Sys2Proof
end

section
/-! SUPPORT. The statements of 30_encoding.md, settled. -/

namespace Sys2Proof.Machine

/-- Settles O39: the maps list each row at its bit pattern, and PREFIX CB is the one term the decoder turns into another. -/
theorem decodeReadsEveryEncoding : Obligations.DecodeReadsEveryEncoding := by
  unfold Obligations.DecodeReadsEveryEncoding
  intro i rest
  exact ⟨decode_encode_append i rest, i.wellFormed_iff_canon, fun n hi => hi ▸ rfl⟩

/-- Settles O40: with a first byte the decoder answers what the taken bytes encode, or finds fewer than the operand needs. -/
theorem encodeRestoresDecodedBytes : Obligations.EncodeRestoresDecodedBytes := by
  unfold Obligations.EncodeRestoresDecodedBytes
  intro bs
  cases bs with
  | nil => exact ⟨fun _ _ => nofun, fun _ _ => .inl rfl⟩
  | cons op bytes =>
    obtain ⟨j, operand, left, hd, rfl, henc, hw⟩ | ⟨hd, hlen⟩ := decode_cons op bytes
    · refine ⟨fun i rest h => ?_, fun e h => ?_⟩
      · cases hd.symm.trans h
        exact ⟨hw, by rw [henc, List.cons_append]⟩
      · cases hd.symm.trans h
    · refine ⟨fun i rest h => ?_, fun _ _ => .inr ⟨op, bytes, rfl, hlen⟩⟩
      cases hd.symm.trans h

/-- Settles O41: the decoder computes each word. -/
theorem decodeSampleWords : Obligations.DecodeSampleWords := by
  unfold Obligations.DecodeSampleWords
  decide

end Sys2Proof.Machine
end

section
/-! SUPPORT. An instruction by its form, and what the loads, the stores and the stack transfers of 40_load.md leave: the
register or the address that takes the value, and everything else as before (R57, R58, R100 to R124). -/

namespace Sys2Proof.Machine

/-- The bytes of an instruction are those of its form (30_encoding.md R73, R78 to R87). -/
theorem encode_of_form {i : Instr} {f : Form} (h : i.form = f) : encode i = f.opcode :: f.operandBytes := by
  rw [encode, h]

/-- The meaning of an instruction is its form's effect. -/
theorem exec_of_form {i : Instr} {f : Form} (h : i.form = f) (s : State) : exec i s = .next (perform f s) := by
  rw [exec_eq_perform, h]

/-! ### Loads into a register -/

theorem State.writeReg_storesNothing (s : State) (r : Reg8) (v : Byte) : StoresNothing s (s.writeReg r v) :=
  .of_fields (by simp) (by simp) (by simp) (by simp)

theorem State.noteRead_storesNothing (s : State) (a : Word) : StoresNothing s (s.noteRead a) :=
  .of_fields (by simp) (by simp) (by simp) (by simp)

/-- A register load through memory stores nothing: what its read made of an external address stays (R62). -/
theorem State.noteRead_writeReg_storesNothing (s : State) (a : Word) (r : Reg8) (v : Byte) :
    StoresNothing s ((s.noteRead a).writeReg r v) := fun b hb => by
  rw [State.writeReg_peek, s.noteRead_storesNothing a b (by simpa using hb)]

/-- LD r,(HL) changes the four pairs and makes its one read (R102). -/
theorem ldRegMem_eq (dst : Reg8) (s : State) :
    ldRegMem dst s =
      { s with
        af := (ldRegMem dst s).af, bc := (ldRegMem dst s).bc, de := (ldRegMem dst s).de, hl := (ldRegMem dst s).hl
        bus := s.bus ++ s.readRequests s.hl } := by
  simp only [ldRegMem, State.noteRead_requests]
  exact State.writeReg_eq _ dst _

@[simp] theorem loadAcc_readReg (a : Word) (s : State) : (loadAcc a s).readReg .a = s.peek a :=
  State.writeReg_readReg_same _ _ _

theorem loadAcc_storesNothing (a : Word) (s : State) : StoresNothing s (loadAcc a s) :=
  s.noteRead_writeReg_storesNothing a .a _

/-- A load of A changes AF and makes its one read (R105, R106, R109, R112, R114). -/
theorem loadAcc_eq (a : Word) (s : State) :
    loadAcc a s = { s with af := (loadAcc a s).af, bus := s.bus ++ s.readRequests a } := by
  simp only [loadAcc, State.noteRead_requests]
  rfl

/-- LD A,(HL+) and LD A,(HL-) change AF and HL and read at the old HL (R117, R118). -/
theorem loadAccMove_eq (d : Word) (s : State) :
    loadAccMove d s =
      { s with af := (loadAccMove d s).af, hl := s.hl + d, bus := s.bus ++ s.readRequests s.hl } :=
  congrArg (fun t : State => { t with hl := s.hl + d }) (loadAcc_eq s.hl s)

/-! ### Stores of A -/

/-- LD (HL+),A and LD (HL-),A store at the old HL, move HL and make their one write (R115, R116). -/
theorem storeAccMove_eq (d : Word) (s : State) :
    storeAccMove d s =
      { s with
        hl := s.hl + d, mem := (storeAccMove d s).mem, ieReg := (storeAccMove d s).ieReg
        ifReg := (storeAccMove d s).ifReg, bus := s.bus ++ s.writeRequests s.hl (s.readReg .a) } :=
  congrArg (fun t : State => { t with hl := s.hl + d }) (s.writeByte_requests s.hl (s.readReg .a) .byte)

/-- The store of LD (HL+),A and LD (HL-),A is at the old HL: HL is no part of what an address reads as (R115, R116). -/
theorem storeAccMove_stores (d : Word) (s : State) : StoresByte s (storeAccMove d s) s.hl (s.readReg .a) :=
  (s.writeByte_stores s.hl (s.readReg .a) .byte).congr rfl rfl rfl rfl rfl rfl rfl rfl (by simp)

/-- A store to IE's address where it is mapped puts the byte in IE (20_memory.md R66). -/
theorem storeAcc_ieReg {s : State} {a : Word} (hm : s.params.ieIfMapped = true) (ha : a = Config.ieAddress) :
    (storeAcc a s).ieReg = s.readReg .a := by
  rw [storeAcc, State.writeByte_ieReg, if_pos ((s.reachesIE_iff a).mpr ⟨hm, ha⟩)]

/-- A store to IF's address where it is mapped puts its five low bits in IF (20_memory.md R66). -/
theorem storeAcc_ifReg {s : State} {a : Word} (hm : s.params.ieIfMapped = true) (ha : a = Config.ifAddress) :
    (storeAcc a s).ifReg = s.readReg .a &&& Config.irqMask := by
  rw [storeAcc, State.writeByte_ifReg, if_pos ((s.reachesIF_iff a).mpr ⟨hm, ha⟩)]

/-! ### Stack pairs -/

/-- A stack pair reads back what was written, AF through its mask (R24, R27). -/
theorem State.writeStackPair_same (s : State) (rr : StackPair) (v : Word) :
    (s.writeStackPair rr v).readStackPair rr = if rr = .af then v &&& 0xFFF0 else v := by
  cases rr
  case af => exact s.setAF_regAF v
  all_goals rfl

theorem State.writeStackPair_other (s : State) {rr q : StackPair} (v : Word) (h : q ≠ rr) :
    (s.writeStackPair rr v).readStackPair q = s.readStackPair q := by
  cases rr <;> cases q
  case af.af | bc.bc | de.de | hl.hl => exact absurd rfl h
  all_goals rfl

/-- A write of a stack pair changes that pair alone (R24). -/
theorem State.writeStackPair_eq (s : State) (rr : StackPair) (v : Word) :
    s.writeStackPair rr v =
      { s with
        af := (s.writeStackPair rr v).af, bc := (s.writeStackPair rr v).bc, de := (s.writeStackPair rr v).de
        hl := (s.writeStackPair rr v).hl } := by
  cases rr <;> rfl

@[simp] theorem State.afterPop_readStackPair (s : State) (rr : StackPair) :
    s.afterPop.readStackPair rr = s.readStackPair rr := by
  rw [State.afterPop_eq]
  cases rr <;> rfl

theorem State.setAF_regF (s : State) (w : Word) : (s.setAF w).regF = loByte w &&& 0xF0 := by
  rw [State.regF, State.setAF_regAF, loByte_mask]

/-- A bit of the low byte of a word is that byte's. -/
theorem getLsbD_joinBytes_low (hi lo : Byte) {k : Nat} (hk : k < 8) : (joinBytes hi lo).getLsbD k = lo.getLsbD k := by
  rw [joinBytes, BitVec.getLsbD_append, if_pos hk]

/-- POP AF takes the flags from the byte at SP (R124). -/
theorem popPair_af_flag (s : State) (f : Flag) : (popPair .af s).flag f = (s.peek s.sp).getLsbD f.position := by
  have low : f.position < 8 := by cases f <;> decide
  exact (State.setAF_flag _ _ f).trans (getLsbD_joinBytes_low _ _ low)

/-- PUSH changes SP and what its store reaches, and makes the writes of one WriteShort (R57, R122). -/
theorem pushPair_eq (rr : StackPair) (s : State) :
    pushPair rr s =
      { s with
        sp := (pushPair rr s).sp, mem := (pushPair rr s).mem, ieReg := (pushPair rr s).ieReg
        ifReg := (pushPair rr s).ifReg, bus := s.bus ++ s.shortRequests (s.sp - 2) (s.readStackPair rr) } :=
  (s.push16_requests _).trans (by rw [pushPair, State.push16_sp])

/-- POP changes its pair and SP and makes its two reads, low byte first (R58, R123, R124). -/
theorem popPair_eq (rr : StackPair) (s : State) :
    popPair rr s =
      { s with
        af := (popPair rr s).af, bc := (popPair rr s).bc, de := (popPair rr s).de, hl := (popPair rr s).hl
        sp := (popPair rr s).sp, bus := s.bus ++ s.readRequests s.sp ++ s.readRequests (s.sp + 1) } := by
  simp only [popPair, State.afterPop_requests]
  cases rr <;> rfl

end Sys2Proof.Machine
end

section
/-! SUPPORT. The stack gives back what it took (20_memory.md R57, R58): what Pop16 returns and leaves after a
Push16 into RAM. -/

namespace Sys2Proof.Machine

/-- From s to t the word v is pushed: it is stored below the old SP, which is two lower. The other fields are open, since
CALL also writes pc. -/
structure Pushed (s t : State) (v : Word) : Prop where
  sp : t.sp = s.sp - 2
  params : t.params = s.params
  stores : StoresWord s t (s.sp - 2) v

theorem pushed_pushPair (p : StackPair) (s : State) : Pushed s (pushPair p s) (s.readStackPair p) :=
  ⟨s.push16_sp _, s.push16_params _, s.push16_stores _⟩

theorem pushed_callTo (nn : Word) (s : State) : Pushed s (callTo nn s) s.pc :=
  ⟨s.push16_sp _, s.push16_params _,
    (s.push16_stores s.pc).congr rfl rfl rfl rfl rfl rfl rfl rfl (s.push16_params _)⟩

/-- Where the byte above SP is no external one, Pop16 returns what the two bytes read as (R58). -/
theorem State.popValue_inside {s : State} (h : s.external (s.sp + 1) = false) :
    s.popValue = joinBytes (s.peek (s.sp + 1)) (s.peek s.sp) := by
  rw [State.popValue, State.peekNext_eq s s.sp h]

/-- RAM keeps what is stored there (R71). -/
theorem State.keepsWrites_of_ram {s : State} {a : Word} (h : s.kind a = .ram) : s.keepsWrites a = true := by
  simp [State.keepsWrites, h]

theorem State.storedAs_unmapped {s : State} (hm : s.params.ieIfMapped = false) (a : Word) (v : Byte) :
    s.storedAs a v = v := by
  simp [State.storedAs, State.reachesIF_unmapped hm]

namespace Pushed

variable {s t : State} {v : Word} (h : Pushed s t v)
include h

/-- Pop16 raises SP to where it was. -/
theorem afterPop_sp : t.afterPop.sp = s.sp := by
  rw [State.afterPop_sp, h.sp, BitVec.sub_add_cancel]

/-- Pop16 returns the pushed word from two bytes of RAM. -/
theorem popValue (hm : s.params.ieIfMapped = false) (hlo : s.kind (s.sp - 2) = .ram) (hhi : s.kind (s.sp - 1) = .ram) :
    t.popValue = v := by
  have above : s.sp - 2 + 1 = s.sp - 1 := by bv_omega
  obtain ⟨low, high, -, -⟩ := h.stores
  rw [above] at high
  have hx : t.external (t.sp + 1) = false := by
    rw [h.sp, above, State.external_congr h.params]
    exact State.keepsWrites_inside (State.keepsWrites_of_ram hhi)
  rw [State.popValue_inside hx, h.sp, above, low (State.keepsWrites_of_ram hlo), high (State.keepsWrites_of_ram hhi),
    State.storedAs_unmapped hm, State.storedAs_unmapped hm, joinBytes_hiByte_loByte]

/-- After a step that stores nothing, every address but the two stack bytes still reads as before the push. -/
theorem peek_other {u : State} (hu : StoresNothing t u) {b : Word} (h0 : b ≠ s.sp - 2) (h1 : b ≠ s.sp - 1)
    (hx : s.external b = false) : u.peek b = s.peek b := by
  obtain ⟨-, -, other, -⟩ := h.stores
  rw [hu b (.inr ((State.external_congr h.params b).trans hx))]
  exact other b h0 (by rwa [show s.sp - 2 + 1 = s.sp - 1 by bv_omega]) hx

end Pushed

theorem popPair_storesNothing (rr : StackPair) (s : State) : StoresNothing s (popPair rr s) :=
  .of_fields (by simp [popPair]) (by simp [popPair]) (by simp [popPair]) (by simp [popPair])

theorem returnTo_storesNothing (s : State) : StoresNothing s (returnTo s) :=
  .of_fields s.afterPop_mem s.afterPop_ieReg s.afterPop_ifReg s.afterPop_params

end Sys2Proof.Machine
end

section
/-! SUPPORT. The statements of 40_load.md, settled. -/

namespace Sys2Proof.Machine

/-- Settles O30: PUSH and CALL push one word into RAM, and Pop16 returns it and raises SP again. -/
theorem stackTransfersComeBack : Obligations.StackTransfersComeBack := by
  unfold Obligations.StackTransfersComeBack
  intro i j s t u hm hlo hhi hi hj
  refine ⟨fun p q hp hq => ?pair, fun nn hcall hret => ?call⟩
  case pair =>
    cases (exec_of_form hp s).symm.trans hi
    cases (exec_of_form hq _).symm.trans hj
    have pushed : Pushed s (perform (.push p) s) (s.readStackPair p) := pushed_pushPair p s
    refine ⟨?_, (State.writeStackPair_sp _ q _).trans pushed.afterPop_sp,
      fun b h0 h1 hx => pushed.peek_other (popPair_storesNothing q _) h0 h1 hx⟩
    exact (State.writeStackPair_same _ q _).trans (by rw [pushed.popValue hm hlo hhi])
  case call =>
    subst hcall hret
    cases hi
    cases hj
    have pushed := pushed_callTo nn s
    exact ⟨pushed.popValue hm hlo hhi, pushed.afterPop_sp,
      fun b h0 h1 hx => pushed.peek_other (returnTo_storesNothing _) h0 h1 hx,
      (State.afterPop_af _).trans (s.push16_af _), (State.afterPop_bc _).trans (s.push16_bc _),
      (State.afterPop_de _).trans (s.push16_de _), (State.afterPop_hl _).trans (s.push16_hl _)⟩

/-- Settles O1: LD r,r' is a write of one register view. -/
theorem ldRegRegCopiesOneRegister : Obligations.LdRegRegCopiesOneRegister := by
  unfold Obligations.LdRegRegCopiesOneRegister
  intro i dst src s h
  exact ⟨encode_of_form h, _, exec_of_form h s, s.writeReg_readReg_same dst _,
    fun q hq => s.writeReg_readReg_other dst q _ hq, s.writeReg_flag dst _, s.writeReg_storesNothing dst _,
    s.writeReg_eq dst _⟩

/-- Settles O2: LD r,d8 is a write of one register view. -/
theorem ldRegImmLoadsTheOperand : Obligations.LdRegImmLoadsTheOperand := by
  unfold Obligations.LdRegImmLoadsTheOperand
  intro i dst n s h
  exact ⟨encode_of_form h, _, exec_of_form h s, s.writeReg_readReg_same dst n,
    fun q hq => s.writeReg_readReg_other dst q n hq, s.writeReg_flag dst n, s.writeReg_storesNothing dst n,
    s.writeReg_eq dst n⟩

/-- Settles O3: LD r,(HL) makes its read, which leaves the registers, and then writes one register view. -/
theorem ldRegMemReadsAtTheOldHl : Obligations.LdRegMemReadsAtTheOldHl := by
  unfold Obligations.LdRegMemReadsAtTheOldHl
  intro i dst s h
  exact ⟨encode_of_form h, _, exec_of_form h s, State.writeReg_readReg_same _ dst _,
    fun q hq => (State.writeReg_readReg_other _ dst q _ hq).trans (s.noteRead_readReg s.hl q),
    flagsKept_perform (.ldRegMem dst) s rfl, s.noteRead_writeReg_storesNothing s.hl dst _, ldRegMem_eq dst s⟩

/-- Settles O4: both forms are one byte store at HL. -/
theorem storesAtHlWriteOneByte : Obligations.StoresAtHlWriteOneByte := by
  unfold Obligations.StoresAtHlWriteOneByte
  intro i v bytes s h
  suffices he : encode i = bytes ∧ exec i s = .next (s.writeByte s.hl v) from
    ⟨he.1, _, he.2, s.writeByte_stores s.hl v .byte, s.writeByte_requests s.hl v .byte⟩
  obtain ⟨src, hi, rfl, rfl⟩ | ⟨rfl, rfl⟩ := h
  · exact ⟨encode_of_form hi, exec_of_form hi s⟩
  · exact ⟨rfl, rfl⟩

/-- Settles O5: each form is the load of A at its address. -/
theorem loadsOfAThroughAnAddress : Obligations.LoadsOfAThroughAnAddress := by
  unfold Obligations.LoadsOfAThroughAnAddress
  intro i a bytes s h
  suffices he : encode i = bytes ∧ exec i s = .next (loadAcc a s) from
    ⟨he.1, _, he.2, loadAcc_readReg a s, flagsKept_loadAcc a s, loadAcc_storesNothing a s, loadAcc_eq a s⟩
  obtain ⟨rfl, rfl, rfl⟩ | ⟨rfl, rfl, rfl⟩ | ⟨rfl, rfl⟩ | ⟨n, rfl, rfl, rfl⟩ | ⟨rfl, rfl, rfl⟩ := h
  all_goals exact ⟨rfl, rfl⟩

/-- Settles O6: each form is the store of A at its address, which IE or IF takes where it is mapped. -/
theorem storesOfAThroughAnAddress : Obligations.StoresOfAThroughAnAddress := by
  unfold Obligations.StoresOfAThroughAnAddress
  intro i a bytes s h
  suffices he : encode i = bytes ∧ exec i s = .next (storeAcc a s) from
    ⟨he.1, _, he.2, s.writeByte_stores a _ .byte, storeAcc_ieReg, storeAcc_ifReg, s.writeByte_requests a _ .byte⟩
  obtain ⟨rfl, rfl, rfl⟩ | ⟨rfl, rfl, rfl⟩ | ⟨rfl, rfl⟩ | ⟨n, rfl, rfl, rfl⟩ | ⟨rfl, rfl, rfl⟩ := h
  all_goals exact ⟨rfl, rfl⟩

/-- Settles O7: the access is that of O5 or O6 at the old HL, and HL moves after it. -/
theorem hlMovesAfterItsAccess : Obligations.HlMovesAfterItsAccess := by
  unfold Obligations.HlMovesAfterItsAccess
  intro i d s
  refine ⟨fun h => ?store, fun h => ?load⟩
  case store =>
    suffices he : encode i = [if d = 1 then 0x22 else 0x32] ∧ exec i s = .next (storeAccMove d s) from
      ⟨he.1, _, he.2, storeAccMove_stores d s, storeAccMove_eq d s⟩
    obtain ⟨rfl, rfl⟩ | ⟨rfl, rfl⟩ := h
    all_goals exact ⟨rfl, rfl⟩
  case load =>
    suffices he : encode i = [if d = 1 then 0x2A else 0x3A] ∧ exec i s = .next (loadAccMove d s) from
      ⟨he.1, _, he.2, loadAcc_readReg s.hl s, flagsKept_loadAccMove d s, loadAcc_storesNothing s.hl s, loadAccMove_eq d s⟩
    obtain ⟨rfl, rfl⟩ | ⟨rfl, rfl⟩ := h
    all_goals exact ⟨rfl, rfl⟩

/-- Settles O8: a write of one pair, a 16-bit store of SP, and a copy of HL. -/
theorem sixteenBitLoads : Obligations.SixteenBitLoads := by
  unfold Obligations.SixteenBitLoads
  intro i nn s
  refine ⟨fun rr h => ?pair, ?storeSp, ?copy⟩
  case pair =>
    exact ⟨encode_of_form h, _, exec_of_form h s, s.writePair_same rr nn, fun q hq => s.writePair_other rr q nn hq,
      .of_fields (s.writePair_mem rr nn) (s.writePair_ieReg rr nn) (s.writePair_ifReg rr nn) (s.writePair_params rr nn),
      s.writePair_eq rr nn⟩
  case storeSp =>
    rintro rfl
    exact ⟨rfl, _, rfl, s.writeShort_stores nn s.sp, s.writeShort_requests nn s.sp⟩
  case copy =>
    rintro rfl
    exact ⟨rfl, rfl⟩

/-- Settles O9: PUSH is Push16 of what the pair reads as. -/
theorem pushStoresThePairBelowSp : Obligations.PushStoresThePairBelowSp := by
  unfold Obligations.PushStoresThePairBelowSp
  intro i rr s h
  refine ⟨encode_of_form h, _, exec_of_form h s, s.push16_sp _, s.push16_stores _, ?masked, pushPair_eq rr s⟩
  case masked =>
    rintro rfl
    rfl

/-- Settles O10: POP is a write of what Pop16 returns to the pair, AF through its mask. -/
theorem popLoadsThePairAtSp : Obligations.PopLoadsThePairAtSp := by
  unfold Obligations.PopLoadsThePairAtSp
  intro i rr s h
  refine ⟨encode_of_form h, _, exec_of_form h s, (State.writeStackPair_sp _ rr _).trans s.afterPop_sp,
    popPair_storesNothing rr s, fun hrr => ⟨?value, ?flags⟩, ?af,
    fun q hq => (State.writeStackPair_other _ _ hq).trans (s.afterPop_readStackPair q), popPair_eq rr s⟩
  case value => exact (State.writeStackPair_same _ rr _).trans (if_neg hrr)
  case flags =>
    refine flagsKept_perform (.pop rr) s ?_
    cases rr
    case af => exact absurd rfl hrr
    all_goals rfl
  case af =>
    rintro rfl
    refine ⟨?_, ?_, popPair_af_flag s .z, popPair_af_flag s .n, popPair_af_flag s .h, popPair_af_flag s .c⟩
    · exact (hiByte_mask _).trans (hiByte_joinBytes _ _)
    · exact (State.setAF_regF _ _).trans (congrArg (· &&& 0xF0) (loByte_joinBytes _ _))

end Sys2Proof.Machine
end

section
/-! SUPPORT. The 8-bit operations of 41_alu8.md as the rules say them: results and flags over unbounded integers (R130 to
R139, R158), and what each instruction leaves (R140 to R161). -/

namespace Sys2Proof.Machine

/-! ### Results over unbounded integers -/

theorem ofNat_eq_zero_iff (n : Nat) : (BitVec.ofNat 8 n = 0) ↔ n % 256 = 0 := by
  rw [← BitVec.toNat_inj, BitVec.toNat_ofNat]
  rfl

/-- ADC adds over unbounded integers: the result is the sum mod 256, H and C its carries (R133). -/
theorem adc8_eq (a b : Byte) (k : Bool) :
    adc8 a b k =
      ⟨BitVec.ofNat 8 (a.toNat + b.toNat + k.toNat),
        ⟨some (decide ((a.toNat + b.toNat + k.toNat) % 256 = 0)), some false,
          some (decide (a.toNat % 16 + b.toNat % 16 + k.toNat > 15)),
          some (decide (a.toNat + b.toNat + k.toNat > 255))⟩⟩ := by
  simp only [adc8, bitNat_eq, lowNibble_eq, ofNat_eq_zero_iff]

/-- ADD is ADC with no carry (R132, R133). -/
theorem add8_eq_adc8 (a b : Byte) : add8 a b = adc8 a b false := rfl

/-- A difference mod 256 over unbounded integers, kept above 0 by twice 256. -/
theorem sub_sub_bitByte (a b : Byte) (k : Bool) :
    a - b - bitByte k = BitVec.ofNat 8 (a.toNat + 512 - b.toNat - k.toNat) := by
  have hk : (bitByte k).toNat = k.toNat := by cases k <;> rfl
  have le_one := k.toNat_le
  rw [← hk]
  bv_omega

/-- SBC subtracts over unbounded integers: H and C are its borrows (R135). -/
theorem sbc8_eq (a b : Byte) (k : Bool) :
    sbc8 a b k =
      ⟨BitVec.ofNat 8 (a.toNat + 512 - b.toNat - k.toNat),
        ⟨some (decide ((a.toNat + 512 - b.toNat - k.toNat) % 256 = 0)), some true,
          some (decide (a.toNat % 16 < b.toNat % 16 + k.toNat)),
          some (decide (a.toNat < b.toNat + k.toNat))⟩⟩ := by
  simp only [sbc8, sub_sub_bitByte, bitNat_eq, lowNibble_eq, ofNat_eq_zero_iff]

/-- SUB is SBC with no borrow (R134, R135). -/
theorem sub8_eq_sbc8 (a b : Byte) : sub8 a b = sbc8 a b false := by
  have none_borrowed : a - b - bitByte false = a - b := BitVec.sub_zero _
  simp only [sbc8, none_borrowed]
  rfl

/-- CP leaves A with the flags of a subtraction: Z is equality (R139). -/
theorem cp8_eq (a b : Byte) :
    cp8 a b =
      ⟨a, ⟨some (decide (a = b)), some true, some (decide (a.toNat % 16 < b.toNat % 16)),
        some (decide (a.toNat < b.toNat))⟩⟩ := by
  simp only [cp8, sub8, lowNibble_eq, sub_eq_zero]

/-- The result of AND, XOR or OR: the flags are the result's but for H, which says whether it is AND (R136 to R138). -/
def logicResult (r : Byte) (isAnd : Bool) : AluResult :=
  ⟨r, ⟨some (decide (r = 0)), some false, some isAnd, some false⟩⟩

theorem and8_eq (a b : Byte) : and8 a b = logicResult (a &&& b) true := rfl

theorem xor8_eq (a b : Byte) : xor8 a b = logicResult (a ^^^ b) false := rfl

theorem or8_eq (a b : Byte) : or8 a b = logicResult (a ||| b) false := rfl

/-- A test of the low nibble is a test of the remainder by 16. -/
theorem low_mask_eq_iff (v k : Byte) : v &&& 0x0F = k ↔ v.toNat % 16 = k.toNat := by
  rw [← BitVec.toNat_inj, ← lowNibble_eq, lowNibble]

/-- The result r of INC, or of DEC, on v: H says that the low nibble was at its end, and C is left (R130, R131). -/
def unitResult (v r : Byte) (dec : Bool) : AluResult :=
  ⟨r, ⟨some (decide (r = 0)), some dec, some (decide (v.toNat % 16 = if dec then 0 else 15)), none⟩⟩

theorem increment_eq (v : Byte) : increment v = unitResult v (v + 1) false := by
  simp only [increment, low_mask_eq_iff]
  rfl

theorem decrement_eq (v : Byte) : decrement v = unitResult v (v - 1) true := by
  simp only [decrement, low_mask_eq_iff]
  rfl

/-- DAA after an addition adds each part of the correction, and C becomes whether 0x60 was added (R158). -/
theorem daa8_addition (a : Byte) (h c : Bool) :
    daa8 a false h c =
      let r := a + (if c = true ∨ a.toNat > 0x99 then 0x60 else 0) + (if h = true ∨ a.toNat % 16 > 9 then 0x06 else 0)
      ⟨r, ⟨some (decide (r = 0)), none, some false, some (decide (c = true ∨ a.toNat > 0x99))⟩⟩ := by
  simp [daa8, lowNibble_eq, add_assoc]

/-- DAA after a subtraction subtracts each part of the correction and leaves C (R158). -/
theorem daa8_subtraction (a : Byte) (h c : Bool) :
    daa8 a true h c =
      let r := a - (if c = true then 0x60 else 0) - (if h = true then 0x06 else 0)
      ⟨r, ⟨some (decide (r = 0)), none, some false, some c⟩⟩ := by
  simp [daa8, sub_add_eq_sub_sub]

/-! ### What the instructions leave -/

/-- An instruction of the arithmetic block: it does op on the operand v, which it reads from a register or from (HL) with
these requests or carries itself, and these are its bytes (R140 to R155; 30_encoding.md R84). -/
def AluOperand (i : Instr) (op : AluOp) (v : Byte) (reads : List Request) (bytes : List Byte) (s : State) : Prop :=
  (∃ src, i.form = .aluReg op src ∧ v = s.readLoc src ∧ reads = s.locRequests src ∧
      bytes = [0b10#2 ++ op.code ++ src.code]) ∨
    (i.form = .aluImm op v ∧ reads = [] ∧ bytes = [0b11#2 ++ op.code ++ 0b110#3, v])

/-- Every instruction of the block has its bytes and does its operation into A. -/
theorem AluOperand.done {i : Instr} {op : AluOp} {v : Byte} {reads : List Request} {bytes : List Byte} {s : State}
    (h : AluOperand i op v reads bytes s) :
    encode i = bytes ∧
      ∃ t, exec i s = .next t ∧ AluDone s t (aluPrimitive op (s.readReg .a) v (s.flag .c)) reads := by
  obtain ⟨src, hi, rfl, rfl, rfl⟩ | ⟨hi, rfl, rfl⟩ := h
  · exact ⟨encode_of_form hi, _, exec_of_form hi s, aluLoc_done op src s⟩
  · exact ⟨encode_of_form hi, _, exec_of_form hi s, aluValue_done op v s⟩

/-- A write of flags alone is an operation into A whose result is A (R160, R161). -/
theorem writeFlags_done (w : FlagWrite) (s : State) : AluDone s (s.writeFlags w) ⟨s.readReg .a, w⟩ [] where
  a := s.writeFlags_readReg w .a
  z := s.writeFlags_z w
  n := s.writeFlags_n w
  h := s.writeFlags_h w
  c := s.writeFlags_c w
  st := .of_fields rfl rfl rfl rfl
  fr := by rw [List.append_nil]; rfl

/-- DAA corrects A from the flags N, H and C (R158). -/
theorem decimalAdjust_done (s : State) :
    AluDone s (decimalAdjust s) (daa8 (s.readReg .a) (s.flag .n) (s.flag .h) (s.flag .c)) [] :=
  accResult_done _ s

/-- With no request, nothing but AF changes. -/
theorem AluDone.changesOnlyAf {s t : State} {r : AluResult} (h : AluDone s t r []) : t = { s with af := t.af } := by
  simpa only [List.append_nil] using h.fr

/-- The opcodes of INC r8 and DEC r8 as one pattern whose last bit says which it is (R156, R157). -/
theorem unit_opcode (l : Loc8) (dec : Bool) :
    0b00#2 ++ l.code ++ (0b10#2 ++ BitVec.ofBool dec) = 0b00#2 ++ l.code ++ 0b10#2 ++ BitVec.ofBool dec :=
  (BitVec.append_assoc (x₁ := 0b00#2 ++ l.code)).symm

/-! ### Decimal sums -/

/-- A decimal number below 100 in BCD, the tens in the high nibble. -/
def bcdByte (n : Nat) : Byte := BitVec.ofNat 8 (n / 10 * 16 + n % 10)

theorem toNat_bcdByte {n : Nat} (h : n < 100) : (bcdByte n).toNat = n / 10 * 16 + n % 10 := by
  rw [bcdByte, BitVec.toNat_ofNat, Nat.mod_eq_of_lt (by omega)]

/-- 0x60 is added exactly when the decimal sum is above 99. -/
theorem bcd_high_correction_iff (x y : Nat) {n : Nat} (hn : n = x / 10 * 16 + x % 10 + (y / 10 * 16 + y % 10)) :
    (n > 255 ∨ n % 256 > 0x99) ↔ x + y > 99 := by
  omega

/-- 0x06 is added exactly when the ones carry. -/
theorem bcd_low_correction_iff (x y : Nat) {n : Nat} (hn : n = x / 10 * 16 + x % 10 + (y / 10 * 16 + y % 10)) :
    ((x / 10 * 16 + x % 10) % 16 + (y / 10 * 16 + y % 10) % 16 > 15 ∨ n % 256 % 16 > 9) ↔ x % 10 + y % 10 > 9 := by
  omega

/-- With both corrections the binary sum of two BCD bytes is the BCD of the decimal sum. -/
theorem bcd_corrected_sum {x y : Nat} (hx : x < 100) (hy : y < 100) :
    BitVec.ofNat 8 (x / 10 * 16 + x % 10 + (y / 10 * 16 + y % 10)) + (if x + y > 99 then 0x60 else 0) +
        (if x % 10 + y % 10 > 9 then 0x06 else 0) =
      BitVec.ofNat 8 ((x + y) % 100 / 10 * 16 + (x + y) % 10) := by
  split <;> split <;> bv_omega

/-- DAA on the result and the flags of ADD of two BCD bytes: the BCD of the decimal sum, and its carry in C. -/
theorem daa8_add8_bcdByte {x y : Nat} (hx : x < 100) (hy : y < 100) (h c : Bool) :
    let sum := add8 (bcdByte x) (bcdByte y)
    let r := daa8 sum.value false (sum.flags.h.getD h) (sum.flags.c.getD c)
    r.value = BitVec.ofNat 8 ((x + y) % 100 / 10 * 16 + (x + y) % 10) ∧ r.flags.c = some (decide (x + y > 99)) := by
  simp only [add8_eq_adc8, adc8_eq, toNat_bcdByte hx, toNat_bcdByte hy, Bool.toNat_false, Nat.add_zero,
    Option.getD_some, daa8_addition, decide_eq_true_eq, BitVec.toNat_ofNat, Nat.reducePow,
    bcd_high_correction_iff x y rfl, bcd_low_correction_iff x y rfl, and_true]
  exact bcd_corrected_sum hx hy

end Sys2Proof.Machine
end

section
/-! SUPPORT. The statements of 41_alu8.md, settled. -/

namespace Sys2Proof.Machine

/-- Settles O18: ADD leaves the binary sum and its carries, with N clear, and DAA's correction of these is the decimal
sum. -/
theorem daaMakesBcdSums : Obligations.DaaMakesBcdSums := by
  unfold Obligations.DaaMakesBcdSums
  intro i r x y s t u hi hx hy ha hr ht hu
  have sum : AluDone s t (add8 (bcdByte x) (bcdByte y)) [] := by
    cases (exec_of_form hi s).symm.trans ht
    have done := aluLoc_done .add (.reg r) s
    rwa [State.readLoc, ha, hr] at done
  have corrected : AluDone t u (daa8 (t.readReg .a) (t.flag .n) (t.flag .h) (t.flag .c)) [] := by
    cases hu
    exact decimalAdjust_done t
  rw [sum.a, sum.n, sum.h, sum.c] at corrected
  obtain ⟨value, carry⟩ := daa8_add8_bcdByte hx hy (s.flag .h) (s.flag .c)
  exact ⟨corrected.a.trans value, corrected.c.trans (congrArg (Option.getD · _) carry)⟩

/-- Settles O11: both are ADC's sum, ADD with no carry. -/
theorem addAndAdcSumWithCarryFlags : Obligations.AddAndAdcSumWithCarryFlags := by
  unfold Obligations.AddAndAdcSumWithCarryFlags
  intro i v c reads bytes s h
  obtain ⟨k, rfl, enc, t, run, done⟩ : ∃ k : Bool, c = k.toNat ∧ encode i = bytes ∧
      ∃ t, exec i s = .next t ∧ AluDone s t (adc8 (s.readReg .a) v k) reads := by
    obtain ⟨add, rfl⟩ | ⟨adc, rfl⟩ := h
    · exact ⟨false, rfl, AluOperand.done (op := .add) add⟩
    · exact ⟨s.flag .c, rfl, AluOperand.done (op := .adc) adc⟩
  rw [adc8_eq] at done
  exact ⟨enc, t, run, done.a, done.z, done.n, done.h, done.c, done.st, done.fr⟩

/-- Settles O12: both are SBC's difference, SUB with no borrow. -/
theorem subAndSbcBorrowFlags : Obligations.SubAndSbcBorrowFlags := by
  unfold Obligations.SubAndSbcBorrowFlags
  intro i v c reads bytes s h
  obtain ⟨k, rfl, enc, t, run, done⟩ : ∃ k : Bool, c = k.toNat ∧ encode i = bytes ∧
      ∃ t, exec i s = .next t ∧ AluDone s t (sbc8 (s.readReg .a) v k) reads := by
    obtain ⟨sub, rfl⟩ | ⟨sbc, rfl⟩ := h
    · refine ⟨false, rfl, ?_⟩
      rw [← sub8_eq_sbc8]
      exact AluOperand.done (op := .sub) sub
    · exact ⟨s.flag .c, rfl, AluOperand.done (op := .sbc) sbc⟩
  rw [sbc8_eq] at done
  exact ⟨enc, t, run, done.a, done.z, done.n, done.h, done.c, done.st, done.fr⟩

/-- Settles O13: the three operations share their flags but for H. -/
theorem logicalOperationsAndTheirFlags : Obligations.LogicalOperationsAndTheirFlags := by
  unfold Obligations.LogicalOperationsAndTheirFlags
  intro i v r isAnd reads bytes s h
  obtain ⟨enc, t, run, done⟩ : encode i = bytes ∧
      ∃ t, exec i s = .next t ∧ AluDone s t (logicResult r isAnd) reads := by
    obtain ⟨and, rfl, rfl⟩ | ⟨xor, rfl, rfl⟩ | ⟨or, rfl, rfl⟩ := h
    · exact AluOperand.done (op := .and) and
    · exact AluOperand.done (op := .xor) xor
    · exact AluOperand.done (op := .or) or
  exact ⟨enc, t, run, done.a, done.z, done.n, done.h, done.c, done.st, done.fr⟩

/-- Settles O14: CP is the subtraction's flags with A as the result. -/
theorem compareKeepsA : Obligations.CompareKeepsA := by
  unfold Obligations.CompareKeepsA
  intro i v reads bytes s h
  obtain ⟨enc, t, run, done⟩ := AluOperand.done (op := .cp) h
  rw [aluPrimitive, cp8_eq] at done
  exact ⟨enc, t, run, done.a, done.z, done.n, done.h, done.c, done.st, done.fr⟩

/-- Settles O15: both are a read-modify-write of the operand that gives C no value. -/
theorem incAndDecKeepCarry : Obligations.IncAndDecKeepCarry := by
  unfold Obligations.IncAndDecKeepCarry
  intro i dst dec r s h
  obtain ⟨enc, t, run, done⟩ : encode i = [0b00#2 ++ dst.code ++ (0b10#2 ++ BitVec.ofBool dec)] ∧
      ∃ t, exec i s = .next t ∧ Modified s t dst (unitResult (s.readLoc dst) r dec) := by
    obtain ⟨hi, rfl, rfl⟩ | ⟨hi, rfl, rfl⟩ := h
    · rw [← increment_eq]
      exact ⟨encode_of_form hi, _, exec_of_form hi s, modifyLoc_done increment dst s⟩
    · rw [← decrement_eq]
      exact ⟨encode_of_form hi, _, exec_of_form hi s, modifyLoc_done decrement dst s⟩
  rw [unit_opcode] at enc
  exact ⟨enc, t, run, done.z, done.n, done.h, done.c, done.o, done.reg, done.mem⟩

/-- Settles O16: the correction splits on N. -/
theorem daaAppliesTheCorrection : Obligations.DaaAppliesTheCorrection := by
  unfold Obligations.DaaAppliesTheCorrection
  intro s
  have done := decimalAdjust_done s
  refine ⟨rfl, _, rfl, fun addition => ?add, fun subtraction => ?sub, ?zero, done.h, done.n, done.st,
    done.changesOnlyAf⟩
  case add =>
    rw [addition, daa8_addition] at done
    exact ⟨done.a, done.c⟩
  case sub =>
    rw [subtraction, daa8_subtraction] at done
    exact ⟨done.a, done.c⟩
  case zero =>
    rw [done.a]
    exact done.z

/-- Settles O17: each is a write of its result to A, or of flags alone. -/
theorem flagOnlyOperations : Obligations.FlagOnlyOperations := by
  unfold Obligations.FlagOnlyOperations
  intro s
  refine ⟨⟨rfl, _, rfl, ?cpl⟩, ⟨rfl, _, rfl, ?scf⟩, ⟨rfl, _, rfl, ?ccf⟩⟩
  case cpl =>
    have done := accResult_done ⟨~~~(s.readReg .a), ⟨none, some true, some true, none⟩⟩ s
    exact ⟨done.a, done.z, done.n, done.h, done.c, done.st, done.changesOnlyAf⟩
  case scf =>
    have done := writeFlags_done ⟨none, some false, some false, some true⟩ s
    exact ⟨done.a, done.z, done.n, done.h, done.c, done.st, done.changesOnlyAf⟩
  case ccf =>
    have done := writeFlags_done ⟨none, some false, some false, some (!s.flag .c)⟩ s
    exact ⟨done.a, done.z, done.n, done.h, done.c, done.st, done.changesOnlyAf⟩

end Sys2Proof.Machine
end

section
/-! SUPPORT. The 16-bit operations of 42_alu16.md as the rules say them: sums and carries over unbounded integers (R166,
R170), and what ADD HL,rr, ADD SP,e8 and LD HL,SP+e8 write (R167, R171, R172). -/

namespace Sys2Proof.Machine

/-! ### Results over unbounded integers -/

/-- A mask of the k low bits is a remainder. -/
theorem toNat_and_lowMask (v mask : Word) (k : Nat) (h : mask.toNat = 2 ^ k - 1) :
    (v &&& mask).toNat = v.toNat % 2 ^ k := by
  rw [BitVec.toNat_and, h, Nat.and_two_pow_sub_one_eq_mod]

/-- The flags of a 16-bit sum: Z is left, and H and C are the carries out of bits 11 and 15 (R166). -/
def sum16Flags (a b : Word) : FlagWrite :=
  ⟨none, some false, some (decide (a.toNat % 4096 + b.toNat % 4096 > 4095)), some (decide (a.toNat + b.toNat > 65535))⟩

theorem add16_eq (a b : Word) : add16 a b = ⟨a + b, sum16Flags a b⟩ := by
  simp only [add16, toNat_and_lowMask _ 0x0FFF 12 rfl]
  rfl

/-- Adding a sign-extended byte is a sum over the signed integers (R9, R170). -/
theorem add_sext16 (v : Word) (n : Byte) : v + sext16 n = BitVec.ofInt 16 (v.toInt + n.toInt) := by
  rw [BitVec.ofInt_add, BitVec.ofInt_toInt]
  rfl

/-- The flags of SP+e8: Z and N clear, H and C the carries of an unsigned add of n to the low byte of SP (R170). -/
def spOffsetFlags (sp : Word) (n : Byte) : FlagWrite :=
  ⟨some false, some false, some (decide (sp.toNat % 16 + n.toNat % 16 > 15)),
    some (decide (sp.toNat % 256 + n.toNat > 255))⟩

theorem addSpOffset_eq (sp : Word) (n : Byte) :
    addSpOffset sp n = ⟨BitVec.ofInt 16 (sp.toInt + n.toInt), spOffsetFlags sp n⟩ := by
  simp only [addSpOffset, add_sext16, lowNibble_eq, toNat_and_lowMask _ 0x000F 4 rfl, toNat_and_lowMask _ 0x00FF 8 rfl]
  rfl

/-! ### What the instructions write -/

theorem addHlPair_eq (rr : Pair) (s : State) :
    addHlPair rr s = { s with hl := s.hl + s.readPair rr }.writeFlags (sum16Flags s.hl (s.readPair rr)) := by
  rw [addHlPair, add16_eq]

theorem addSpImm_eq (n : Byte) (s : State) :
    addSpImm n s = { s with sp := BitVec.ofInt 16 (s.sp.toInt + n.toInt) }.writeFlags (spOffsetFlags s.sp n) := by
  rw [addSpImm, addSpOffset_eq]

theorem ldHlSpImm_eq (n : Byte) (s : State) :
    ldHlSpImm n s = { s with hl := BitVec.ofInt 16 (s.sp.toInt + n.toInt) }.writeFlags (spOffsetFlags s.sp n) := by
  rw [ldHlSpImm, addSpOffset_eq]

/-- A write of a pair gives it the value, leaves the other pairs, and stores nothing (R24). -/
theorem State.writePair_changes (s : State) (rr : Pair) (v : Word) :
    let t := s.writePair rr v
    t.readPair rr = v ∧ (∀ q, q ≠ rr → t.readPair q = s.readPair q) ∧ StoresNothing s t ∧
      t = { s with bc := t.bc, de := t.de, hl := t.hl, sp := t.sp } :=
  ⟨s.writePair_same rr v, fun q hq => s.writePair_other rr q v hq,
    .of_fields (s.writePair_mem rr v) (s.writePair_ieReg rr v) (s.writePair_ifReg rr v) (s.writePair_params rr v),
    s.writePair_eq rr v⟩

end Sys2Proof.Machine
end

section
/-! SUPPORT. The statements of 42_alu16.md, settled. -/

namespace Sys2Proof.Machine

/-- Settles O19: the sum goes to HL, and the write of flags after it gives Z no value. -/
theorem addHlPairKeepsZ : Obligations.AddHlPairKeepsZ := by
  unfold Obligations.AddHlPairKeepsZ
  intro i rr s h
  have run := (exec_of_form h s).trans (congrArg Host.Outcome.next (addHlPair_eq rr s))
  have done := writeFlags_done (sum16Flags s.hl (s.readPair rr)) { s with hl := s.hl + s.readPair rr }
  exact ⟨encode_of_form h, _, run, rfl, done.z, done.n, done.h, done.c, done.a, done.st, done.changesOnlyAf⟩

/-- Settles O20: both are a write of one pair. -/
theorem pairIncAndDecWriteNoFlag : Obligations.PairIncAndDecWriteNoFlag := by
  unfold Obligations.PairIncAndDecWriteNoFlag
  intro i rr s
  exact ⟨fun inc => ⟨encode_of_form inc, _, exec_of_form inc s, s.writePair_changes rr _⟩,
    fun dec => ⟨encode_of_form dec, _, exec_of_form dec s, s.writePair_changes rr _⟩⟩

/-- Settles O21: both write one sum and its flags, to SP or to HL. -/
theorem spOffsetForms : Obligations.SpOffsetForms := by
  unfold Obligations.SpOffsetForms
  intro n s
  refine ⟨⟨rfl, _, congrArg Host.Outcome.next (addSpImm_eq n s), rfl, ?sp⟩,
    ⟨rfl, _, congrArg Host.Outcome.next (ldHlSpImm_eq n s), rfl, ?hl⟩⟩
  case sp =>
    have done := writeFlags_done (spOffsetFlags s.sp n) { s with sp := BitVec.ofInt 16 (s.sp.toInt + n.toInt) }
    exact ⟨done.z, done.n, done.h, done.c, done.a, done.st, done.changesOnlyAf⟩
  case hl =>
    have done := writeFlags_done (spOffsetFlags s.sp n) { s with hl := BitVec.ofInt 16 (s.sp.toInt + n.toInt) }
    exact ⟨done.z, done.n, done.h, done.c, done.a, done.st, done.changesOnlyAf⟩

end Sys2Proof.Machine
end

section
/-! SUPPORT. The rotates, shifts and SWAP of 43_rotate_shift.md as bits moved: the primitives' shifts and masks are
concatenations, rotations and an arithmetic shift (R173 to R185). -/

namespace Sys2Proof.Machine

/-! ### Shifts as concatenations -/

/-- A high part and a low part, each beside zeros, are put together by `|||`. -/
theorem high_or_low {m n : Nat} (x : BitVec m) (y : BitVec n) : x ++ 0#n ||| 0#m ++ y = x ++ y := by
  rw [BitVec.or_append, BitVec.or_zero, BitVec.zero_or]

theorem extractLsb'_one (v : Byte) (k : Nat) : v.extractLsb' k 1 = BitVec.ofBool (v.getLsbD k) := by
  refine BitVec.eq_of_getLsbD_eq fun i hi => ?_
  obtain rfl : i = 0 := by omega
  simp

theorem shiftLeft_one_eq_append (v : Byte) : v <<< 1 = v.extractLsb' 0 7 ++ 0#1 :=
  BitVec.shiftLeft_eq_concat_of_lt (by decide)

theorem shiftRight_one_eq_append (v : Byte) : v >>> 1 = 0#1 ++ v.extractLsb' 1 7 :=
  BitVec.ushiftRight_eq_extractLsb'_of_lt (by decide)

theorem bitByte_eq_append (b : Bool) : bitByte b = 0#7 ++ BitVec.ofBool b := by cases b <;> rfl

theorem bitByte_shiftLeft_seven_eq_append (b : Bool) : bitByte b <<< 7 = BitVec.ofBool b ++ 0#7 := by cases b <;> rfl

/-- A left shift with b put in bit 0 (R180). -/
theorem shiftLeft_or_bitByte (v : Byte) (b : Bool) :
    v <<< 1 ||| bitByte b = v.extractLsb' 0 7 ++ BitVec.ofBool b := by
  rw [shiftLeft_one_eq_append, bitByte_eq_append]
  exact high_or_low _ _

/-- A right shift with b put in bit 7 (R181). -/
theorem shiftRight_or_bitByte (v : Byte) (b : Bool) :
    v >>> 1 ||| bitByte b <<< 7 = BitVec.ofBool b ++ v.extractLsb' 1 7 := by
  rw [shiftRight_one_eq_append, bitByte_shiftLeft_seven_eq_append, BitVec.or_comm]
  exact high_or_low _ _

/-! ### The other movements -/

/-- A left rotation is a left shift with bit 7 put in bit 0 (R178). -/
theorem shiftLeft_or_bit7 (v : Byte) : v <<< 1 ||| bitByte (v.getLsbD 7) = v.rotateLeft 1 := by
  have carried : v >>> 7 = bitByte (v.getLsbD 7) := by
    rw [bitByte_eq_append, ← extractLsb'_one]
    exact BitVec.ushiftRight_eq_extractLsb'_of_lt (by decide)
  rw [← carried]
  exact (BitVec.rotateLeft_def (x := v) (r := 1)).symm

/-- A right rotation is a right shift with bit 0 put in bit 7 (R179). -/
theorem shiftRight_or_bit0 (v : Byte) : v >>> 1 ||| bitByte (v.getLsbD 0) <<< 7 = v.rotateRight 1 := by
  have carried : v <<< 7 = bitByte (v.getLsbD 0) <<< 7 := by
    rw [bitByte_shiftLeft_seven_eq_append, ← extractLsb'_one]
    exact BitVec.shiftLeft_eq_concat_of_lt (by decide)
  rw [← carried]
  exact (BitVec.rotateRight_def (x := v) (r := 1)).symm

/-- An arithmetic right shift is a right shift with bit 7 left where it was (R183). -/
theorem shiftRight_or_sign (v : Byte) : v >>> 1 ||| (v &&& 0x80) = v.sshiftRight 1 := by
  refine BitVec.eq_of_getLsbD_eq fun k hk => ?_
  have sign : (v &&& 0x80).getLsbD k = (v.getLsbD k && decide (7 = k)) :=
    (BitVec.getLsbD_and ..).trans (congrArg (v.getLsbD k && ·) (BitVec.getLsbD_twoPow 7 k))
  rw [BitVec.getLsbD_or, BitVec.getLsbD_ushiftRight, BitVec.getLsbD_sshiftRight, sign]
  obtain rfl | lower : k = 7 ∨ k < 7 := by omega
  · simp [BitVec.msb_eq_getLsbD_last]
  · simp [show 7 ≠ k by omega, show ¬ 8 ≤ k by omega, show 1 + k < 8 by omega]

/-- SWAP's shifts exchange the nibbles (R184). -/
theorem swap_nibbles (v : Byte) : (v &&& 0x0F) <<< 4 ||| v >>> 4 = v.extractLsb' 0 4 ++ v.extractLsb' 4 4 := by
  have low : (v &&& 0x0F) <<< 4 = v.extractLsb' 0 4 ++ 0#4 := by
    have masked : (v &&& 0x0F).extractLsb' 0 4 = v.extractLsb' 0 4 :=
      BitVec.extractLsb'_and.trans BitVec.and_allOnes
    rw [← masked]
    exact BitVec.shiftLeft_eq_concat_of_lt (by decide)
  have high : v >>> 4 = 0#4 ++ v.extractLsb' 4 4 := BitVec.ushiftRight_eq_extractLsb'_of_lt (by decide)
  rw [low, high]
  exact high_or_low _ _

/-! ### The eight operations -/

/-- The bits of v moved by an operation, with the carry flag before it (R178 to R185). -/
def movedBits (op : ShiftOp) (v : Byte) (carry : Bool) : Byte :=
  match op with
  | .rlc => v.rotateLeft 1
  | .rrc => v.rotateRight 1
  | .rl => v.extractLsb' 0 7 ++ BitVec.ofBool carry
  | .rr => BitVec.ofBool carry ++ v.extractLsb' 1 7
  | .sla => v.extractLsb' 0 7 ++ 0#1
  | .sra => v.sshiftRight 1
  | .swap => v.extractLsb' 0 4 ++ v.extractLsb' 4 4
  | .srl => 0#1 ++ v.extractLsb' 1 7

/-- The bit that an operation shifts out: bit 7 to the left, bit 0 to the right, none for SWAP (R178 to R185). -/
def shiftedOut (op : ShiftOp) (v : Byte) : Bool :=
  match op with
  | .rlc | .rl | .sla => v.getLsbD 7
  | .rrc | .rr | .sra | .srl => v.getLsbD 0
  | .swap => false

/-- Each operation moves its bits and puts the bit shifted out in C (R178 to R185). -/
theorem shiftPrimitive_eq (op : ShiftOp) (v : Byte) (carry : Bool) :
    shiftPrimitive op v carry = shiftResult (movedBits op v carry) (shiftedOut op v) := by
  have moved : (shiftPrimitive op v carry).value = movedBits op v carry := by
    cases op with
    | rlc => exact shiftLeft_or_bit7 v
    | rrc => exact shiftRight_or_bit0 v
    | rl => exact shiftLeft_or_bitByte v carry
    | rr => exact shiftRight_or_bitByte v carry
    | sla => exact shiftLeft_one_eq_append v
    | sra => exact shiftRight_or_sign v
    | swap => exact swap_nibbles v
    | srl => exact shiftRight_one_eq_append v
  rw [← moved]
  cases op <;> rfl

/-- An accumulator rotate is its CB operation with Z clear (R173 to R176). -/
theorem accRotate_eq (op : ShiftOp) (v : Byte) (carry : Bool) :
    accRotate op v carry =
      ⟨movedBits op v carry, ⟨some false, some false, some false, some (shiftedOut op v)⟩⟩ := by
  rw [accRotate, shiftPrimitive_eq]
  rfl

/-- An accumulator rotate leaves the moved bits in A and the bit shifted out in C, with Z clear (R173 to R176). -/
theorem rotateAcc_done (op : ShiftOp) (s : State) :
    AluDone s (rotateAcc op s)
      ⟨movedBits op (s.readReg .a) (s.flag .c),
        ⟨some false, some false, some false, some (shiftedOut op (s.readReg .a))⟩⟩ [] := by
  rw [← accRotate_eq]
  exact accResult_done _ s

/-- A CB operation leaves the moved bits in its operand and the bit shifted out in C (R178 to R185). -/
theorem shiftLoc_done (op : ShiftOp) (dst : Loc8) (s : State) :
    Modified s (shiftLoc op dst s) dst
      (shiftResult (movedBits op (s.readLoc dst) (s.flag .c)) (shiftedOut op (s.readLoc dst))) := by
  rw [← shiftPrimitive_eq]
  exact modifyLoc_done (shiftPrimitive op · (s.flag .c)) dst s

end Sys2Proof.Machine
end

section
/-! SUPPORT. The statements of 43_rotate_shift.md, settled. -/

namespace Sys2Proof.Machine

/-- Settles O22: each is the bit movement of its CB operation on A, written with Z clear. -/
theorem accumulatorRotatesClearZ : Obligations.AccumulatorRotatesClearZ := by
  unfold Obligations.AccumulatorRotatesClearZ
  intro i r c bytes s h
  obtain ⟨op, enc, run, rfl, rfl⟩ : ∃ op, encode i = bytes ∧ exec i s = .next (rotateAcc op s) ∧
      r = movedBits op (s.readReg .a) (s.flag .c) ∧ c = shiftedOut op (s.readReg .a) := by
    obtain ⟨rfl, rfl, rfl, rfl⟩ | ⟨rfl, rfl, rfl, rfl⟩ | ⟨rfl, rfl, rfl, rfl⟩ | ⟨rfl, rfl, rfl, rfl⟩ := h
    · exact ⟨.rlc, rfl, rfl, rfl, rfl⟩
    · exact ⟨.rrc, rfl, rfl, rfl, rfl⟩
    · exact ⟨.rl, rfl, rfl, rfl, rfl⟩
    · exact ⟨.rr, rfl, rfl, rfl, rfl⟩
  have done := rotateAcc_done op s
  exact ⟨enc, _, run, done.a, done.c, done.z, done.n, done.h, done.st, done.changesOnlyAf⟩

/-- Settles O23: each is a read-modify-write of the operand, whose result is the moved bits. -/
theorem cbShiftsAndRotates : Obligations.CbShiftsAndRotates := by
  unfold Obligations.CbShiftsAndRotates
  rintro i op dst v r c s hi rfl h
  obtain ⟨rfl, rfl⟩ : r = movedBits op (s.readLoc dst) (s.flag .c) ∧ c = shiftedOut op (s.readLoc dst) := by
    obtain ⟨rfl, moved⟩ | ⟨rfl, moved⟩ | ⟨rfl, moved⟩ | ⟨rfl, moved⟩ | ⟨rfl, moved⟩ | ⟨rfl, moved⟩ | ⟨rfl, moved⟩ |
      ⟨rfl, moved⟩ := h
    all_goals exact moved
  have done := shiftLoc_done op dst s
  exact ⟨encode_of_form hi, _, exec_of_form hi s, done.z, done.n, done.h, done.c, done.o, done.reg, done.mem⟩

end Sys2Proof.Machine
end

section
/-! SUPPORT. The single-bit operations of 44_bit.md bit by bit: what RES and SET make of each bit, and what BIT, RES and
SET leave (R190 to R192). -/

namespace Sys2Proof.Machine

/-! ### Single bits -/

/-- The mask of bit b has that bit alone. -/
theorem getLsbD_bitMask (b : BitVec 3) (k : Nat) : (1#8 <<< b.toNat).getLsbD k = decide (k = b.toNat) := by
  have inside : b.toNat < 8 := b.isLt
  exact (BitVec.getLsbD_twoPow b.toNat k).trans (by simp [inside, eq_comm])

/-- RES clears bit b and leaves the others (R191). -/
theorem getLsbD_clearBit (b : BitVec 3) (v : Byte) {k : Nat} (hk : k < 8) :
    (clearBit b v).getLsbD k = if k = b.toNat then false else v.getLsbD k := by
  rw [clearBit, BitVec.getLsbD_and, BitVec.getLsbD_not, getLsbD_bitMask]
  by_cases h : k = b.toNat <;> simp [h, hk]

/-- SET sets bit b and leaves the others (R192). -/
theorem getLsbD_setBit (b : BitVec 3) (v : Byte) (k : Nat) :
    (setBit b v).getLsbD k = if k = b.toNat then true else v.getLsbD k := by
  rw [setBit, BitVec.getLsbD_or, getLsbD_bitMask]
  by_cases h : k = b.toNat <;> simp [h]

/-! ### What the instructions leave -/

/-- BIT leaves A and writes its flags, after the one read that (HL) makes (R190). -/
theorem testBit_done (b : BitVec 3) (src : Loc8) (s : State) :
    AluDone s (testBit b src s) ⟨s.readReg .a, bitFlags b (s.readLoc src)⟩ (s.locRequests src) := by
  rw [testBit, State.noteLoc_requests]
  have done := writeFlags_done (bitFlags b (s.readLoc src)) { s with bus := s.bus ++ s.locRequests src }
  exact ⟨done.a, done.z, done.n, done.h, done.c, .of_fields rfl rfl rfl rfl, rfl⟩

/-- An operand is rewritten, with no flag: it holds the value, no other register changes, and memory and the requests
change for the (HL) form alone, by a read and then a write. -/
structure Rewritten (s t : State) (dst : Loc8) (v : Byte) : Prop where
  flags : FlagsKept s t
  others : ∀ q, dst ≠ .reg q → t.readReg q = s.readReg q
  reg : ∀ q, dst = .reg q → t.readReg q = v ∧ StoresNothing s t ∧
    t = { s with af := t.af, bc := t.bc, de := t.de, hl := t.hl }
  mem : dst = .atHl → StoresByte s t s.hl v ∧
    t = { s with
      mem := t.mem, ieReg := t.ieReg, ifReg := t.ifReg,
      bus := s.bus ++ s.readRequests s.hl ++ s.writeRequests s.hl v }

/-- A write of an operand after its read rewrites it, whatever the value (R80, R191, R192). -/
theorem writeLoc_done (dst : Loc8) (v : Byte) (s : State) : Rewritten s ((s.noteLoc dst).writeLoc dst v) dst v := by
  have flags : FlagsKept s ((s.noteLoc dst).writeLoc dst v) := fun f =>
    (State.writeLoc_flag _ dst v f).trans (s.noteLoc_flag dst f)
  cases dst with
  | reg r =>
    refine ⟨flags, fun q hq => s.writeReg_readReg_other r q v fun e => hq (congrArg _ e.symm), ?_, Loc8.noConfusion⟩
    rintro q ⟨⟩
    exact ⟨s.writeReg_readReg_same r v, s.writeReg_storesNothing r v, s.writeReg_eq r v⟩
  | atHl =>
    refine ⟨flags, fun q _ => ?others, fun q => Loc8.noConfusion, fun _ => ?mem⟩
    case others => cases q <;> simp [State.writeLoc, State.readReg]
    case mem =>
      have stored := State.writeByte_stores { s with bus := s.bus ++ s.readRequests s.hl } s.hl v .byte
      rw [State.noteLoc_requests]
      exact ⟨stored.congr rfl rfl rfl rfl rfl rfl rfl rfl (State.writeByte_params ..),
        State.writeByte_requests _ s.hl v .byte⟩

end Sys2Proof.Machine
end

section
/-! SUPPORT. The statements of 44_bit.md, settled. -/

namespace Sys2Proof.Machine

/-- Settles O24: BIT is a write of flags after the read of its operand. -/
theorem bitTestsOneBit : Obligations.BitTestsOneBit := by
  unfold Obligations.BitTestsOneBit
  intro i b src s hi
  have done := testBit_done b src s
  exact ⟨encode_of_form hi, _, exec_of_form hi s, done.z, done.n, done.h, done.c, done.a, done.st, done.fr⟩

/-- Settles O25: both rewrite the operand with one bit changed. -/
theorem resAndSetChangeOneBit : Obligations.ResAndSetChangeOneBit := by
  unfold Obligations.ResAndSetChangeOneBit
  intro i b dst one s h
  obtain ⟨enc, r, bits, run⟩ : encode i = [0xCB, 0b1#1 ++ BitVec.ofBool one ++ b ++ dst.code] ∧
      ∃ r : Byte, (∀ k, k < 8 → r.getLsbD k = if k = b.toNat then one else (s.readLoc dst).getLsbD k) ∧
        exec i s = .next ((s.noteLoc dst).writeLoc dst r) := by
    obtain ⟨hi, rfl⟩ | ⟨hi, rfl⟩ := h
    · exact ⟨encode_of_form hi, _, fun k hk => getLsbD_clearBit b _ hk, exec_of_form hi s⟩
    · exact ⟨encode_of_form hi, _, fun k _ => getLsbD_setBit b _ k, exec_of_form hi s⟩
  have done := writeLoc_done dst r s
  exact ⟨enc, r, bits, _, run, done.flags, done.others, done.reg, done.mem⟩

end Sys2Proof.Machine
end

section
/-! SUPPORT. The control transfers of 45_control.md as the state each leaves: conditions (30_encoding.md R83; R200), targets
(R204, R211), and what CALL and RST push (R206, R211) and RET and RETI pop (R208, R210). -/

namespace Sys2Proof.Machine

/-! ### Conditions -/

/-- What each condition reads, as the statements write it, is whether it holds (30_encoding.md R83). -/
theorem State.eq_holds {s : State} {cc : Cond} {taken : Bool}
    (h : cc = .nz ∧ taken = !s.flag .z ∨ cc = .z ∧ taken = s.flag .z ∨ cc = .nc ∧ taken = !s.flag .c ∨
      cc = .c ∧ taken = s.flag .c) : taken = s.holds cc := by
  obtain ⟨rfl, h⟩ | ⟨rfl, h⟩ | ⟨rfl, h⟩ | ⟨rfl, h⟩ := h
  all_goals exact h

/-- A conditional jump writes pc either way: with its target, or with the address it already holds (R202, R205). -/
theorem whenHolds_jumpTo (cc : Cond) (t : Word) (s : State) :
    whenHolds cc (jumpTo t) s = { s with pc := if s.holds cc then t else s.pc } := by
  unfold whenHolds
  split <;> rfl

/-! ### Targets -/

/-- JR's target is a sum over the signed integers (R204). -/
theorem jumpRelative_eq (n : Byte) (s : State) :
    jumpRelative n s = jumpTo (BitVec.ofInt 16 (s.pc.toInt + n.toInt)) s := by
  rw [jumpRelative, add_sext16]

theorem whenHolds_jumpRelative (cc : Cond) (n : Byte) (s : State) :
    whenHolds cc (jumpRelative n) s =
      { s with pc := if s.holds cc then BitVec.ofInt 16 (s.pc.toInt + n.toInt) else s.pc } := by
  rw [← whenHolds_jumpTo, whenHolds, jumpRelative_eq, whenHolds]

/-- The target of RST t is 8t (R211). -/
theorem rstTarget_eq (t : BitVec 3) : rstTarget t = BitVec.ofNat 16 (8 * t.toNat) := by
  rw [rstTarget]
  bv_omega

/-! ### What is pushed and popped -/

/-- CALL and RST change pc, SP and what their store reaches, and make the writes of one WriteShort (R57, R206, R211). -/
theorem callTo_eq (t : Word) (s : State) :
    callTo t s =
      { s with
        pc := (callTo t s).pc, sp := (callTo t s).sp, mem := (callTo t s).mem, ieReg := (callTo t s).ieReg
        ifReg := (callTo t s).ifReg, bus := s.bus ++ s.shortRequests (s.sp - 2) s.pc } :=
  (congrArg (jumpTo t) (s.push16_requests s.pc)).trans (by rw [(pushed_callTo t s).sp]; rfl)

/-- What a return leaves: pc popped with the two reads of Pop16, and IME set by RETI's alone (R58, R208, R210). -/
def State.returned (s : State) (reti : Bool) : State :=
  { s with
    pc := s.peekNext s.sp ++ s.peek s.sp, sp := s.sp + 2, ime := s.ime || reti
    bus := s.bus ++ s.readRequests s.sp ++ s.readRequests (s.sp + 1) }

theorem returnTo_eq (s : State) : returnTo s = s.returned false := by
  rw [returnTo, State.afterPop_requests, State.returned, Bool.or_false]
  rfl

theorem returnFromInterrupt_eq (s : State) : s.returnFromInterrupt = s.returned true := by
  rw [State.returnFromInterrupt, State.afterPop_requests, State.returned, Bool.or_true]
  rfl

end Sys2Proof.Machine
end

section
/-! SUPPORT. The statements of 45_control.md, settled. -/

namespace Sys2Proof.Machine

/-- Settles O26: each is a write of pc, a conditional form's with its target or with pc itself. -/
theorem absoluteJumps : Obligations.AbsoluteJumps := by
  unfold Obligations.AbsoluteJumps
  intro nn s
  refine ⟨⟨rfl, rfl⟩, ⟨rfl, rfl⟩, fun i cc taken hi hcc => ⟨encode_of_form hi, ?_⟩⟩
  rw [State.eq_holds hcc, ← whenHolds_jumpTo]
  exact exec_of_form hi s

/-- Settles O27: each is the jump of O26 to a signed sum. -/
theorem relativeJumps : Obligations.RelativeJumps := by
  unfold Obligations.RelativeJumps
  intro n s
  refine ⟨⟨rfl, congrArg Host.Outcome.next (jumpRelative_eq n s)⟩, fun i cc taken hi hcc => ⟨encode_of_form hi, ?_⟩⟩
  rw [State.eq_holds hcc, ← whenHolds_jumpRelative]
  exact exec_of_form hi s

/-- Settles O28: a taken form is Push16 of pc and then a jump; a false condition leaves the state. -/
theorem callsPushTheReturnAddress : Obligations.CallsPushTheReturnAddress := by
  unfold Obligations.CallsPushTheReturnAddress
  intro i target taken bytes s h
  obtain ⟨enc, run⟩ : encode i = bytes ∧ exec i s = .next (if taken then callTo target s else s) := by
    obtain ⟨rfl, rfl, rfl⟩ | ⟨cc, hi, hcc, rfl⟩ | ⟨k, hi, rfl, rfl, rfl⟩ := h
    · exact ⟨rfl, rfl⟩
    · rw [State.eq_holds hcc]
      exact ⟨encode_of_form hi, exec_of_form hi s⟩
    · rw [← rstTarget_eq]
      exact ⟨encode_of_form hi, exec_of_form hi s⟩
  refine ⟨enc, ?notTaken, ?taken⟩
  case notTaken =>
    rintro rfl
    exact run
  case taken =>
    rintro rfl
    have pushed := pushed_callTo target s
    exact ⟨_, run, rfl, pushed.sp, pushed.stores, callTo_eq target s⟩

/-- Settles O29: RET and RETI are one return that sets IME or does not; a false condition leaves the state. -/
theorem returnsPopThePc : Obligations.ReturnsPopThePc := by
  unfold Obligations.ReturnsPopThePc
  intro i taken reti bytes s h
  obtain ⟨enc, run⟩ : encode i = bytes ∧ exec i s = .next (if taken then s.returned reti else s) := by
    obtain ⟨rfl, rfl, rfl, rfl⟩ | ⟨rfl, rfl, rfl, rfl⟩ | ⟨cc, hi, rfl, hcc, rfl⟩ := h
    · exact ⟨rfl, congrArg Host.Outcome.next (returnTo_eq s)⟩
    · exact ⟨rfl, congrArg Host.Outcome.next (returnFromInterrupt_eq s)⟩
    · rw [State.eq_holds hcc, ← returnTo_eq]
      exact ⟨encode_of_form hi, exec_of_form hi s⟩
  refine ⟨enc, ?notTaken, ?taken⟩
  all_goals
    rintro rfl
    exact run

end Sys2Proof.Machine
end

section
/-! SUPPORT. The commit, once: the fetch of an instruction with the requests of its operand bytes, and what a commit answers
for an implemented and for an unimplemented opcode; the halt wait after a wake; the rows of the CB sub-table and of the
UNKNOWN opcodes by their forms (46_system.md R222 to R236). -/

namespace Sys2Proof.Machine

/-! ### The fetch and the commit -/

/-- The requests of an opcode's operand bytes, which lie after its address, lower address first (R64, R76). -/
def State.operandRequests (s : State) (e : Entry) (opcAddr : Word) : List Request :=
  (List.range e.operandCount).flatMap fun k => s.readRequests (opcAddr + BitVec.ofNat 16 (k + 1))

theorem State.operandRequests_imm8 (s : State) (make : Byte → Instr) (a : Word) :
    s.operandRequests (.imm8 make) a = s.readRequests (a + 1) :=
  List.append_nil _

theorem State.operandRequests_imm16 (s : State) (make : Word → Instr) (a : Word) :
    s.operandRequests (.imm16 make) a = s.readRequests (a + 1) ++ s.readRequests (a + 2) :=
  congrArg (s.readRequests (a + 1) ++ ·) (List.append_nil _)

/-- The operand fetch makes its requests and changes nothing else (R64, R76). -/
theorem State.noteOperands_requests (s : State) (e : Entry) (a : Word) :
    s.noteOperands e a = { s with bus := s.bus ++ s.operandRequests e a } := by
  cases e with
  | bare | unknown => simp [State.noteOperands, State.operandRequests, Entry.operandCount]
  | imm8 make => rw [State.noteOperands, State.noteRead_requests, State.operandRequests_imm8]
  | imm16 make =>
    simp only [State.noteOperands, State.noteRead_requests, State.operandRequests_imm16, List.append_assoc]
    rfl

/-- The state that the execute function sees, field by field (R75, R76, R224). -/
theorem State.afterFetch_requests (s : State) (e : Entry) :
    s.afterFetch e =
      { s with
        haltRepeat := false
        pc := (if s.haltRepeat then s.pc else s.pc + 1) + BitVec.ofNat 16 e.operandCount
        bus := s.bus ++ s.operandRequests e s.pc } := by
  simp only [State.afterFetch, State.passOpcode_eq, State.noteOperands_requests]
  rfl

/-- The commit of an implemented opcode executes the fetched instruction and emits the Snapshot of what it left (R262). -/
theorem commit_of_exec {op : Byte} {s t : State} (hop : op ∉ s.params.unimplemented)
    (h : exec (s.fetchInstr (primary op) s.pc) (s.afterFetch (primary op)) = .next t) :
    commit op s = .next (t.emit (.snapshot t.snapshot)) := by
  simp only [commit, if_neg hop, h]

/-- The commit of an unimplemented opcode warns in place of executing (R236, R262). -/
theorem commit_of_unimplemented {op : Byte} {s t : State} (hop : op ∈ s.params.unimplemented)
    (ht : t = (s.afterFetch (primary op)).emit (.warning (mnemonic op) s.pc)) :
    commit op s = .next (t.emit (.snapshot t.snapshot)) := by
  simp only [commit, if_pos hop, ht]

/-! ### The halt wait -/

/-- A halt wait goes on past the wake exactly where no enabled request is pending (R222). -/
theorem State.wake_haltWait (s : State) : s.wake.haltWait = (s.haltWait && decide (s.pendingMask = 0)) := by
  by_cases hp : s.pendingMask = 0
  · simp [State.wake, hp]
  · rw [State.wake_haltWait_of_pending hp, decide_eq_false hp, Bool.and_false]

/-! ### The rows of the two tables -/

/-- The fields of a CB index pick the operation of its sub-table row (R87, R228). -/
theorem performCb_eq_perform (n : Byte) (s : State) : performCb n s = perform (cbEntry n).form s := by
  rw [form_cbEntry, performCb]
  generalize (n.extractLsb' 6 2).toNat = gg
  match gg with
  | 0 | 1 | 2 | _ + 3 => rfl

/-- The rows of form UNKNOWN are the eleven of R88. -/
theorem opcode_of_unknown {i : Instr} {op : Byte} (h : i.form = .unknown op) :
    op ∈ [0xD3, 0xDB, 0xDD, 0xE3, 0xE4, 0xEB, 0xEC, 0xED, 0xF4, 0xFC, 0xFD] := by
  cases i
  case unknownD3 | unknownDB | unknownDD | unknownE3 | unknownE4 | unknownEB | unknownEC | unknownED | unknownF4
      | unknownFC | unknownFD =>
    cases h
    decide
  all_goals cases h

end Sys2Proof.Machine
end

section
/-! SUPPORT. The statements of 46_system.md, settled. -/

namespace Sys2Proof.Machine

/-- Settles O32: the operand bytes that each kind of opcode names are those that the commit fetches before it executes. -/
theorem haltWaitsOrRepeatsTheNextByte : Obligations.HaltWaitsOrRepeatsTheNextByte := by
  unfold Obligations.HaltWaitsOrRepeatsTheNextByte
  intro op i reads s
  refine ⟨⟨rfl, rfl⟩, fun h hop => ?commit⟩
  obtain ⟨rfl, rfl⟩ : i = s.fetchInstr (primary op) s.pc ∧ reads = s.operandRequests (primary op) s.pc := by
    obtain ⟨hp, rfl⟩ | ⟨make, hp, rfl, rfl⟩ | ⟨make, hp, rfl, rfl⟩ := h <;> rw [hp]
    · exact ⟨rfl, rfl⟩
    · exact ⟨rfl, (s.operandRequests_imm8 make s.pc).symm⟩
    · exact ⟨rfl, (s.operandRequests_imm16 make s.pc).symm⟩
  rw [← s.afterFetch_requests (primary op)]
  exact ⟨_, exec_eq_perform _ _, commit_of_exec hop (exec_eq_perform _ _)⟩

/-- Settles O33: PREFIX CB and the sub-table row pick one operation by the same fields. -/
theorem prefixCbIsItsSubTableEntry : Obligations.PrefixCbIsItsSubTableEntry := by
  unfold Obligations.PrefixCbIsItsSubTableEntry
  intro n s
  refine ⟨encode_cbEntry n, ?_, performCb n s, rfl⟩
  rw [exec_eq_perform (cbEntry n), ← performCb_eq_perform]
  rfl

/-- Settles O55: both change one field but for the input, which a sampling shortens. -/
theorem wakeAndRequestSampling : Obligations.WakeAndRequestSampling := by
  unfold Obligations.WakeAndRequestSampling
  intro s
  refine ⟨fun irq later hs => ?request, fun hs => ?ended, ?wake⟩
  case request => simp only [State.sampleIrq, hs]
  case ended => simp only [State.sampleIrq, hs]
  case wake =>
    rw [State.wake_eq, State.wake_haltWait]
    rfl

/-- Settles O59: the commit is its fetch and two events. -/
theorem unimplementedOpcodesOnlyWarn : Obligations.UnimplementedOpcodesOnlyWarn := by
  unfold Obligations.UnimplementedOpcodesOnlyWarn
  intro op s hop
  refine ⟨_, commit_of_unimplemented hop rfl, ?_⟩
  rw [s.afterFetch_requests (primary op)]
  exact ⟨rfl, .of_fields rfl rfl rfl rfl, List.append_assoc _ _ _, rfl⟩

/-- Settles O31: each is the write of its own fields. -/
theorem nopStopDiEi : Obligations.NopStopDiEi := by
  unfold Obligations.NopStopDiEi
  intro n s
  exact ⟨⟨rfl, rfl⟩, ⟨rfl, rfl⟩, ⟨rfl, rfl⟩, rfl, rfl⟩

/-- Settles O34: the row's form is its opcode's, and DecodeError names pc and ends the run. -/
theorem unknownOpcodesRaiseDecodeError : Obligations.UnknownOpcodesRaiseDecodeError := by
  unfold Obligations.UnknownOpcodesRaiseDecodeError
  intro i op s hi
  refine ⟨opcode_of_unknown hi, encode_of_form hi, (exec_of_form hi s).trans ?_⟩
  simp [perform, State.raiseDecodeError, State.emit, State.clearSession]

end Sys2Proof.Machine
end

section
/-! SUPPORT. The stages of a step, each as the state it answers: the commit, the debug stage, the iteration, the polls of the two
waits and the exit from the loop (60_exceptions.md R262, R263, R266, R267, R278). -/

namespace Sys2Proof.Machine

/-! ### The stages of an iteration -/

/-- What steps 8 to 10 leave of a decoded opcode, before the Snapshot of the commit (R236, R262). -/
def committed (op : Byte) (s : State) : State :=
  if op ∈ s.params.unimplemented then (s.afterFetch (primary op)).emit (.warning (mnemonic op) s.pc)
  else perform (s.fetchInstr (primary op) s.pc).form (s.afterFetch (primary op))

theorem commit_eq (op : Byte) (s : State) :
    commit op s = .next ((committed op s).emit (.snapshot (committed op s).snapshot)) := by
  unfold committed
  split
  · rename_i hop
    exact commit_of_unimplemented hop rfl
  · rename_i hop
    exact commit_of_exec hop (exec_eq_perform _ _)

/-- The commit of a decodable opcode leaves the scheduler state: no such instruction is an UNKNOWN row (R244). -/
theorem committed_sched {op : Byte} (hk : knownOpcode op = true) (s : State) : (committed op s).sched = s.sched := by
  have fetched : (s.afterFetch (primary op)).sched = s.sched := by rw [State.afterFetch_eq]
  unfold committed
  split
  · exact fetched
  · obtain ⟨kept, -⟩ := (perform_kept _ (s.afterFetch (primary op))).rest (fetchInstr_known hk s s.pc)
    exact kept.trans fetched

theorem debugStage_eq (op : Byte) (s : State) :
    debugStage op s =
      if s.debugMode = true ∧ s.stepArmed = true then .next { s with sched := .stepping op } else commit op s := by
  simp only [debugStage, Bool.and_eq_true]

/-- The state after steps 1 to 3: a breakpoint at pc and the sticky step have had their effect, and the opcode is read
(R262, R264, R265). -/
def State.opcodeRead (s : State) : State :=
  { s with
    debugMode := s.debugMode || decide (s.pc ∈ s.breakpoints)
    stepArmed := s.stepArmed || s.stickyStep || decide (s.pc ∈ s.breakpoints)
    stickyStep := s.stickyStep || decide (s.pc ∈ s.breakpoints)
    bus := s.bus ++ s.readRequests s.pc }

/-- That state with the trace of step 4 emitted (R262, R275). -/
def State.traced (s : State) : State := s.opcodeRead.emit (.info (mnemonic (s.peek s.pc)) s.pc)

/-- An iteration by the order of its checks: the decode, the pause, the step, and then the commit (R240, R262, R266, R267). -/
theorem iterate_eq (s : State) :
    iterate s =
      if knownOpcode (s.peek s.pc) = false then .next (s.opcodeRead.raiseDecodeError (s.peek s.pc))
      else if s.paused = true then .next { s.traced with sched := .paused (s.peek s.pc) }
      else if s.opcodeRead.debugMode = true ∧ s.opcodeRead.stepArmed = true then
        .next { s.traced with sched := .stepping (s.peek s.pc) }
      else commit (s.peek s.pc) s.traced := by
  have hpc : s.checkBreakpoint.armSticky.pc = s.pc := by rw [State.checkBreakpoint_armSticky]
  have hpeek : s.checkBreakpoint.armSticky.peek s.pc = s.peek s.pc := by rw [State.checkBreakpoint_armSticky]; rfl
  have hread : s.checkBreakpoint.armSticky.noteRead s.pc = s.opcodeRead := by
    rw [State.noteRead_requests, State.checkBreakpoint_armSticky]; rfl
  have trace : traceStage (s.peek s.pc) s.opcodeRead =
      if s.paused then .next { s.traced with sched := .paused (s.peek s.pc) } else debugStage (s.peek s.pc) s.traced := rfl
  rw [debugStage_eq] at trace
  have he := primary_encodes (s.peek s.pc)
  unfold iterate knownOpcode
  simp only [hpc, hpeek, hread]
  cases hp : primary (s.peek s.pc) <;> rw [hp] at he
  case unknown i => exact exec_of_form he.2.2 _
  all_goals exact trace

section

variable {s : State}

theorem iterate_of_unknown (hk : knownOpcode (s.peek s.pc) = false) :
    iterate s = .next (s.opcodeRead.raiseDecodeError (s.peek s.pc)) := by
  rw [iterate_eq, if_pos hk]

variable (hk : knownOpcode (s.peek s.pc) = true)
include hk

theorem iterate_of_paused (hp : s.paused = true) :
    iterate s = .next { s.traced with sched := .paused (s.peek s.pc) } := by
  rw [iterate_eq, if_neg (by simp [hk]), if_pos hp]

theorem iterate_of_stepping (hp : s.paused = false) (hd : s.opcodeRead.debugMode = true)
    (ha : s.opcodeRead.stepArmed = true) : iterate s = .next { s.traced with sched := .stepping (s.peek s.pc) } := by
  rw [iterate_eq, if_neg (by simp [hk]), if_neg (by simp [hp]), if_pos ⟨hd, ha⟩]

theorem iterate_of_commit (hp : s.paused = false)
    (hn : s.opcodeRead.debugMode = false ∨ s.opcodeRead.stepArmed = false) :
    iterate s = commit (s.peek s.pc) s.traced := by
  rw [iterate_eq, if_neg (by simp [hk]), if_neg (by simp [hp]), if_neg]
  rintro ⟨hd, ha⟩
  simp [hd, ha] at hn

end

/-- The step-wait's two conditions, in the bits before the iteration: a breakpoint at pc forces both (R264, R265, R267). -/
theorem State.opcodeRead_steps (s : State) :
    s.opcodeRead.debugMode = true ∧ s.opcodeRead.stepArmed = true ↔
      (s.debugMode = true ∨ s.pc ∈ s.breakpoints) ∧
        (s.stepArmed = true ∨ s.stickyStep = true ∨ s.pc ∈ s.breakpoints) := by
  simp [State.opcodeRead, or_assoc]

/-- Where an iteration leaves the scheduler (R244, R262, R264 to R267). -/
theorem sched_of_iterate {s t : State} (h : iterate s = .next t) :
    t.sched =
      if knownOpcode (s.peek s.pc) = false then .halted
      else if s.paused = true then .paused (s.peek s.pc)
      else if (s.debugMode = true ∨ s.pc ∈ s.breakpoints) ∧
          (s.stepArmed = true ∨ s.stickyStep = true ∨ s.pc ∈ s.breakpoints) then .stepping (s.peek s.pc)
      else s.sched := by
  simp only [iterate_eq, State.opcodeRead_steps] at h
  split_ifs at h ⊢ with unknown
  case neg =>
    rw [commit_eq] at h
    cases h
    exact committed_sched (by simpa using unknown) _
  all_goals
    cases h
    rfl

/-- The record of a DecodeError names the opcode and its address (R240, R241). -/
theorem fatal_of_iterate {s t : State} (h : iterate s = .next t) (hk : knownOpcode (s.peek s.pc) = false) :
    t.fatal = some ⟨s.peek s.pc, s.pc⟩ := by
  rw [iterate_eq, if_pos hk] at h
  cases h
  rfl

/-! ### The parts of a step -/

theorem step_outside {s : State} (h : s.inRun = false) : step s = .next s.observe := by
  cases hs : s.sched
  case running | paused | stepping => simp [State.inRun, hs] at h
  all_goals simp only [step, schedulerStep, hs]

theorem step_of_paused {s : State} {op : Byte} (h : s.sched = .paused op) : step s = pausePoll op s.observe := by
  simp only [step, schedulerStep, h]

theorem step_of_stepping {s : State} {op : Byte} (h : s.sched = .stepping op) : step s = stepPoll op s.observe := by
  simp only [step, schedulerStep, h]

theorem boundary_of_not_running {s : State} (h : s.running = false) : boundary s = .next s.exitLoop := by
  simp [boundary, h]

theorem pausePoll_of_paused {s : State} {o : Byte} (h : s.sched = .paused o) (op : Byte) :
    pausePoll op s =
      if s.running then if s.paused then .next s else debugStage op { s with sched := .running }
      else .next s.exitLoop := by
  simp only [pausePoll, h]

theorem pausePoll_of_ended {s : State} (h : ∀ o, s.sched ≠ .paused o) (op : Byte) : pausePoll op s = .next s := by
  unfold pausePoll
  split
  · rename_i o ho
    exact absurd ho (h o)
  · rfl

/-- The state whose opcode a step-advance commits: the advance consumed, the DebugSnapshot emitted, the step disarmed (R267). -/
def State.advanced (s : State) : State :=
  { s with
    advance := false, stepArmed := false, sched := .running, events := s.events ++ [.debugSnapshot s.snapshot] }

theorem stepPoll_of_stepping {s : State} {o : Byte} (h : s.sched = .stepping o) (op : Byte) :
    stepPoll op s =
      if s.running then if s.advance then commit op s.advanced else .next s else .next s.exitLoop := by
  simp only [stepPoll, h]
  rfl

theorem stepPoll_of_ended {s : State} (h : ∀ o, s.sched ≠ .stepping o) (op : Byte) : stepPoll op s = .next s := by
  unfold stepPoll
  split
  · rename_i o ho
    exact absurd ho (h o)
  · rfl

theorem State.exitLoop_eq {s : State} (h : s.sched ≠ .idle) : s.exitLoop = { s.clearSession with sched := .stopped } := by
  unfold State.exitLoop
  split
  · exact absurd ‹_› h
  · rfl

theorem State.sched_exitLoop (s : State) : s.exitLoop.sched = if s.sched = .idle then .idle else .stopped := by
  split
  · rename_i h
    simp only [State.exitLoop, h]
  · rename_i h
    rw [State.exitLoop_eq h]

/-- Dispatch changes IME, SP, pc, what a push stores and the output alone (R250). -/
theorem State.dispatch_eq (s : State) :
    s.dispatch =
      { s with
        pc := s.dispatch.pc, sp := s.dispatch.sp, ime := s.dispatch.ime, mem := s.dispatch.mem
        ieReg := s.dispatch.ieReg, ifReg := s.dispatch.ifReg, bus := s.dispatch.bus, events := s.dispatch.events } := by
  obtain h | ⟨t, h⟩ := s.dispatch_cases <;> rw [h]
  rw [State.enterInterrupt_eq]

/-- Between the host calls and the iteration a boundary leaves the session's bits, the breakpoints and `sched` (R248, R250,
R252, R263). -/
theorem State.leaveBoundary_session (s : State) :
    let w := s.sampleIrq.wake.leaveBoundary
    w.sched = s.sched ∧ w.paused = s.paused ∧ w.debugMode = s.debugMode ∧ w.stepArmed = s.stepArmed ∧
      w.stickyStep = s.stickyStep ∧ w.breakpoints = s.breakpoints := by
  rw [State.leaveBoundary, State.dispatch_eq, State.wake_eq, State.sampleIrq_eq]
  exact ⟨rfl, rfl, rfl, rfl, rfl, rfl⟩

end Sys2Proof.Machine
end

section
/-! SUPPORT. The host calls, each as the fields it changes, and an observation as its batch of calls (60_exceptions.md R263, R268 to
R274, R281). -/

namespace Sys2Proof.Machine

/-! ### The calls -/

/-- Start begins a run from Idle and Stopped(normal) and is ignored elsewhere (R268). -/
theorem State.start_eq (s : State) (d : Bool) :
    s.start d =
      if s.sched = .idle ∨ s.sched = .stopped then
        { s.clearSession with running := true, debugMode := d, sched := .running }
      else s := by
  cases hs : s.sched <;> simp [State.start, hs]

/-- A call other than Reset and Start changes the session's bits, the breakpoints and what a load fills alone (R269 to R274,
R280). -/
theorem State.applyCall_eq (s : State) {c : HostCall} (hr : c ≠ .reset) (hs : ∀ d, c ≠ .start d) :
    s.applyCall c =
      { s with
        running := (s.applyCall c).running, paused := (s.applyCall c).paused, debugMode := (s.applyCall c).debugMode
        stepArmed := (s.applyCall c).stepArmed, stickyStep := (s.applyCall c).stickyStep
        advance := (s.applyCall c).advance, breakpoints := (s.applyCall c).breakpoints
        mem := (s.applyCall c).mem, bus := (s.applyCall c).bus } := by
  cases c with
  | reset => exact absurd rfl hr
  | start d => exact absurd rfl (hs d)
  | addBreakpoint a | removeBreakpoint a => rfl
  | stop | pause | resume => simp only [State.applyCall]; split <;> rfl
  | singleStep => simp only [State.applyCall, State.singleStep]; split <;> rfl
  | setStickyStep b => simp only [State.applyCall, State.setStickyStep]; split <;> (try split) <;> rfl
  | load a bytes => simp only [State.applyCall, State.load]; split <;> rfl

theorem State.sched_applyCall_start (s : State) (d : Bool) :
    (s.applyCall (.start d)).sched = if s.sched = .idle ∨ s.sched = .stopped then .running else s.sched := by
  rw [State.applyCall, State.start_eq]
  split <;> rfl

/-- A call other than Reset and Start leaves `sched` (R269 to R274). -/
theorem State.sched_applyCall_other (s : State) {c : HostCall} (hr : c ≠ .reset) (hs : ∀ d, c ≠ .start d) :
    (s.applyCall c).sched = s.sched := by
  rw [State.applyCall_eq s hr hs]

/-- No call but Reset leaves Halted(fatal) or touches its record (R240, R268). -/
theorem State.halted_applyCall {s : State} (hs : s.sched = .halted) {c : HostCall} (hr : c ≠ .reset) :
    (s.applyCall c).sched = .halted ∧ (s.applyCall c).fatal = s.fatal := by
  by_cases hc : ∃ d, c = .start d
  · obtain ⟨d, rfl⟩ := hc
    rw [State.applyCall, State.start_eq, if_neg (by simp [hs])]
    exact ⟨hs, rfl⟩
  · rw [State.applyCall_eq s hr (not_exists.mp hc)]
    exact ⟨hs, rfl⟩

/-- Each call in a run changes its own bits (R269 to R272). -/
theorem State.applyCall_stop {s : State} (h : s.inRun = true) : s.applyCall .stop = { s with running := false } :=
  if_pos h

theorem State.applyCall_pause {s : State} (h : s.inRun = true) : s.applyCall .pause = { s with paused := true } :=
  if_pos h

theorem State.applyCall_resume {s : State} (h : s.inRun = true) : s.applyCall .resume = { s with paused := false } :=
  if_pos h

theorem State.applyCall_setStickyStep {s : State} (h : s.inRun = true) (b : Bool) :
    s.applyCall (.setStickyStep b) = s.setStickyStep b :=
  if_pos h

theorem State.applyCall_singleStep_of_stepping {s : State} {op : Byte} (h : s.sched = .stepping op) :
    s.applyCall .singleStep = { s with advance := true } := by
  simp only [State.applyCall, State.singleStep, h]

/-- In a run but not in the step-wait, SingleStep is a request to step (R271). -/
theorem State.applyCall_singleStep_of_not_stepping {s : State} (h : s.inRun = true) (hs : ∀ op, s.sched ≠ .stepping op) :
    s.applyCall .singleStep = { s with debugMode := true, stepArmed := true } := by
  cases e : s.sched
  case stepping op => exact absurd e (hs op)
  case running | paused => simp only [State.applyCall, State.singleStep, e]
  all_goals simp [State.inRun, e] at h

/-- Outside a run the calls that steer one are ignored (R269 to R272; D38). -/
theorem State.applyCall_ignored {s : State} (h : s.inRun = false) {c : HostCall} (d : Bool)
    (hc : c ∈ [HostCall.stop, .pause, .resume, .singleStep, .setStickyStep d]) : s.applyCall c = s := by
  simp only [List.mem_cons, List.not_mem_nil, or_false] at hc
  obtain rfl | rfl | rfl | rfl | rfl := hc
  case inr.inr.inr.inl =>
    cases e : s.sched
    case running | paused | stepping => simp [State.inRun, e] at h
    all_goals simp only [State.applyCall, State.singleStep, e]
  all_goals exact if_neg (by simp [h])

/-! ### The breakpoint set -/

theorem mem_addBreakpoint (bs : List Word) (a b : Word) : b ∈ addBreakpoint bs a ↔ b = a ∨ b ∈ bs := by
  induction bs with
  | nil => simp [addBreakpoint]
  | cons c rest ih =>
    simp only [addBreakpoint]
    split
    · exact List.mem_cons
    · split
      · rename_i hac
        simp [hac]
      · simp [ih, or_left_comm]

theorem mem_removeBreakpoint (bs : List Word) (a b : Word) : b ∈ removeBreakpoint bs a ↔ b ≠ a ∧ b ∈ bs := by
  simp [removeBreakpoint, and_comm]

/-! ### Observations -/

theorem State.observe_cons {s : State} {batch : List HostCall} {later : List (List HostCall)}
    (h : s.hostCalls = batch :: later) : s.observe = batch.foldl State.applyCall { s with hostCalls := later } := by
  simp only [State.observe, h]

theorem State.observe_single {s : State} {c : HostCall} {later : List (List HostCall)}
    (h : s.hostCalls = [c] :: later) : s.observe = { s with hostCalls := later }.applyCall c :=
  State.observe_cons h

theorem State.halted_foldl {s : State} (hs : s.sched = .halted) {batch : List HostCall} (hb : HostCall.reset ∉ batch) :
    (batch.foldl State.applyCall s).sched = .halted ∧ (batch.foldl State.applyCall s).fatal = s.fatal := by
  induction batch generalizing s with
  | nil => exact ⟨hs, rfl⟩
  | cons c rest ih =>
    obtain ⟨hc, hrest⟩ := not_or.mp (List.mem_cons.not.mp hb)
    obtain ⟨sched, fatal⟩ := State.halted_applyCall hs (Ne.symm hc)
    obtain ⟨sched', fatal'⟩ := ih sched hrest
    exact ⟨sched', fatal'.trans fatal⟩

/-- A fatal halt outlasts an observation that brings no Reset (R240, R273). -/
theorem State.halted_observe {s : State} (hs : s.sched = .halted)
    (hb : ∀ batch ∈ s.hostCalls.head?, HostCall.reset ∉ batch) :
    s.observe.sched = .halted ∧ s.observe.fatal = s.fatal := by
  cases hc : s.hostCalls with
  | nil => rw [State.observe_of_noCalls hc]; exact ⟨hs, rfl⟩
  | cons batch later =>
    rw [State.observe_cons hc]
    exact State.halted_foldl (s := { s with hostCalls := later }) hs (hb batch (by simp [hc]))

/-- After an observation at a boundary a run that goes on is at that boundary: no call enters a wait (R263, R268). -/
theorem State.Inv.sched_observe_running {s : State} (h : s.Inv) (hs : s.sched = .running)
    (hr : s.observe.running = true) : s.observe.sched = .running := by
  have hin := (observe_keeps_parts h).2.runningInRun hr
  obtain e | e | e := s.sched_observe
  · exact e.trans hs
  · simp [State.inRun, e] at hin
  · exact e

end Sys2Proof.Machine
end

section
/-! SUPPORT. The transitions of the scheduler (60_exceptions.md R261) from each of its states, once the calls of the batch are
applied. -/

namespace Sys2Proof.Machine

/-- A boundary that starts an iteration goes where the iteration goes, on the opcode at pc after the dispatch (R262, R263). -/
theorem boundary_transitions {s t : State} (hs : s.sched = .running) (hr : s.running = true)
    (hh : s.sampleIrq.wake.haltWait = false) (hb : boundary s = .next t) {b : State} {op : Byte}
    (hb' : b = s.sampleIrq.wake.dispatch) (hop : op = b.peek b.pc) :
    t.sched =
        (if knownOpcode op = false then .halted
        else if s.paused = true then .paused op
        else if (s.debugMode = true ∨ b.pc ∈ s.breakpoints) ∧
            (s.stepArmed = true ∨ s.stickyStep = true ∨ b.pc ∈ s.breakpoints) then .stepping op
        else .running) ∧
      (knownOpcode op = false → t.fatal = some ⟨op, b.pc⟩) := by
  subst hb' hop
  rw [boundary_of_running hr, if_neg (by simp [hh])] at hb
  obtain ⟨sched, paused, debugMode, stepArmed, stickyStep, breakpoints⟩ := s.leaveBoundary_session
  have at_pc := sched_of_iterate hb
  rw [sched, paused, debugMode, stepArmed, stickyStep, breakpoints, hs] at at_pc
  have record := fatal_of_iterate hb
  exact ⟨at_pc, record⟩

/-- A pause-wait that no Reset ended (R266). -/
theorem pausePoll_transitions {s t : State} {op : Byte} (hk : knownOpcode op = true) (hs : s.sched = .paused op)
    (hp : pausePoll op s = .next t) :
    (s.running = false → t.sched = .stopped) ∧ (s.running = true → s.paused = true → t = s) ∧
      (s.running = true → s.paused = false →
        t.sched = if s.debugMode = true ∧ s.stepArmed = true then .stepping op else .running) := by
  rw [pausePoll_of_paused hs] at hp
  refine ⟨fun hr => ?_, fun hr hw => ?_, fun hr hw => ?_⟩
  · rw [hr] at hp
    cases hp
    simp [State.sched_exitLoop, hs]
  · rw [hr, hw] at hp
    cases hp
    rfl
  · rw [hr, hw] at hp
    simp only [Bool.false_eq_true, if_true, if_false, debugStage_eq, commit_eq] at hp
    split_ifs at hp ⊢
    · cases hp
      rfl
    · cases hp
      exact committed_sched hk _

/-- A step-wait that no Reset ended (R267). -/
theorem stepPoll_transitions {s t : State} {op : Byte} (hk : knownOpcode op = true) (hs : s.sched = .stepping op)
    (hp : stepPoll op s = .next t) :
    (s.running = false → t.sched = .stopped) ∧ (s.running = true → s.advance = false → t = s) ∧
      (s.running = true → s.advance = true → t.sched = .running) := by
  rw [stepPoll_of_stepping hs] at hp
  refine ⟨fun hr => ?_, fun hr ha => ?_, fun hr ha => ?_⟩
  · rw [hr] at hp
    cases hp
    simp [State.sched_exitLoop, hs]
  · rw [hr, ha] at hp
    cases hp
    rfl
  · rw [hr, ha] at hp
    simp only [if_true, commit_eq] at hp
    cases hp
    exact committed_sched hk _

/-- A wait that the calls have ended is left in Idle or in a new run's first boundary (R266, R267, R273). -/
theorem pausePoll_ended {s t : State} {op : Byte} (hw : s.sched = .idle ∨ s.sched = .running)
    (hp : pausePoll op s = .next t) : t = s := by
  rw [pausePoll_of_ended (by rcases hw with h | h <;> simp [h])] at hp
  cases hp
  rfl

theorem stepPoll_ended {s t : State} {op : Byte} (hw : s.sched = .idle ∨ s.sched = .running)
    (hp : stepPoll op s = .next t) : t = s := by
  rw [stepPoll_of_ended (by rcases hw with h | h <;> simp [h])] at hp
  cases hp
  rfl

end Sys2Proof.Machine
end

section
/-! SUPPORT. A step answers a next state; a run that a Stop ends; and the instruction that the bytes at pc decode to, as the
iteration fetches it (60_exceptions.md R243, R262, R269, R278; 30_encoding.md R75, R76). -/

namespace Sys2Proof.Machine

/-! ### Totality -/

theorem debugStage_next (op : Byte) (s : State) : ∃ t, debugStage op s = .next t := by
  rw [debugStage_eq, commit_eq]
  split_ifs <;> exact ⟨_, rfl⟩

theorem iterate_next (s : State) : ∃ t, iterate s = .next t := by
  rw [iterate_eq, commit_eq]
  split_ifs <;> exact ⟨_, rfl⟩

theorem boundary_next (s : State) : ∃ t, boundary s = .next t := by
  cases hr : s.running with
  | false => exact ⟨_, boundary_of_not_running hr⟩
  | true =>
    rw [boundary_of_running hr]
    split
    · exact ⟨_, rfl⟩
    · exact iterate_next _

theorem pausePoll_next (op : Byte) (s : State) : ∃ t, pausePoll op s = .next t := by
  by_cases h : ∃ o, s.sched = .paused o
  · obtain ⟨o, h⟩ := h
    rw [pausePoll_of_paused h]
    split_ifs
    · exact ⟨_, rfl⟩
    · exact debugStage_next op _
    · exact ⟨_, rfl⟩
  · exact ⟨_, pausePoll_of_ended (not_exists.mp h) op⟩

theorem stepPoll_next (op : Byte) (s : State) : ∃ t, stepPoll op s = .next t := by
  by_cases h : ∃ o, s.sched = .stepping o
  · obtain ⟨o, h⟩ := h
    rw [stepPoll_of_stepping h, commit_eq]
    split_ifs <;> exact ⟨_, rfl⟩
  · exact ⟨_, stepPoll_of_ended (not_exists.mp h) op⟩

theorem step_next (s : State) : ∃ t, step s = .next t := by
  cases hs : s.sched with
  | running => rw [step_of_running hs]; exact boundary_next _
  | paused op => rw [step_of_paused hs]; exact pausePoll_next op _
  | stepping op => rw [step_of_stepping hs]; exact stepPoll_next op _
  | idle | halted | stopped => exact ⟨_, step_outside (by simp [State.inRun, hs])⟩

/-! ### Stop -/

/-- A run whose `running` the calls have cleared leaves the loop, from a boundary and from either wait (R263, R278). -/
theorem step_of_not_running {s : State} (hin : s.inRun = true) (hs : s.observe.sched = s.sched)
    (hr : s.observe.running = false) : step s = .next s.observe.exitLoop := by
  cases hw : s.sched with
  | running => rw [step_of_running hw, boundary_of_not_running hr]
  | paused op => rw [step_of_paused hw, pausePoll_of_paused (hs.trans hw), if_neg (by simp [hr])]
  | stepping op => rw [step_of_stepping hw, stepPoll_of_stepping (hs.trans hw), if_neg (by simp [hr])]
  | idle | halted | stopped => simp [State.inRun, hw] at hin

/-- A batch that is one Stop ends the run before anything executes (R269). -/
theorem step_of_stop {s : State} {later : List (List HostCall)} (hin : s.inRun = true)
    (hc : s.hostCalls = [.stop] :: later) :
    step s = .next { s with
      hostCalls := later, running := false, sched := .stopped, paused := false, debugMode := false, stepArmed := false
      stickyStep := false, advance := false } := by
  have hu : s.observe = { s with hostCalls := later, running := false } :=
    (State.observe_single hc).trans (State.applyCall_stop hin)
  have hs : s.observe.sched = s.sched := by rw [hu]
  have notIdle : s.observe.sched ≠ .idle := fun e => by simp [State.inRun, hs.symm.trans e] at hin
  rw [step_of_not_running hin hs (by rw [hu]), State.exitLoop_eq notIdle, hu]
  rfl

/-! ### Waits that hold -/

/-- With no request to come and none pending, sampling and the wake leave a halt wait (R222, R248). -/
theorem State.sampleIrq_wake_of_haltWait {s : State} (hi : s.irqs = []) (hp : s.pendingMask = 0) :
    s.sampleIrq.wake = s := by
  have sampled : s.sampleIrq = s := by simp only [State.sampleIrq, hi]
  rw [sampled, State.wake, if_neg (by simp [hp])]

/-! ### The bytes at pc -/

/-- The instruction of an opcode that is not decodable is the opcode's UNKNOWN row (R88, R235). -/
theorem fetchInstr_unknown {op : Byte} (h : knownOpcode op = false) (s : State) (a : Word) :
    (s.fetchInstr (primary op) a).form = .unknown op := by
  have he := primary_encodes op
  unfold knownOpcode at h
  cases hp : primary op <;> rw [hp] at he h
  case unknown => exact he.2.2
  all_goals cases h

/-- The decoder makes of the bytes at pc what the iteration fetches once it has read the opcode, in as many bytes as the
encoding has (R75, R76). -/
theorem decode_bytesAtPc {s : State} {i : Instr} {rest : List Byte} (h : decode s.bytesAtPc = .ok (i, rest)) :
    i = (s.noteRead s.pc).fetchInstr (primary (s.peek s.pc)) s.pc ∧ i.wellFormed = true ∧
      (encode i).length = (primary (s.peek s.pc)).operandCount + 1 := by
  have he := primary_encodes (s.peek s.pc)
  cases hp : primary (s.peek s.pc) <;> rw [hp] at he <;> simp only [State.bytesAtPc, decode, hp] at h <;> cases h
  case bare | unknown => exact ⟨rfl, he.2.1, by rw [he.1]; rfl⟩
  case imm8 => exact ⟨rfl, (he _).2.1, by rw [(he _).1]; rfl⟩
  case imm16 => exact ⟨rfl, (he _).2.1, by rw [(he _).1]; rfl⟩

/-- The requests of an opcode and of its operand bytes are those of its bytes in order (R64). -/
theorem State.readRequests_operandRequests (s : State) (e : Entry) (a : Word) :
    s.readRequests a ++ s.operandRequests e a =
      (List.range (e.operandCount + 1)).flatMap fun k => s.readRequests (a + BitVec.ofNat 16 k) := by
  rw [List.range_succ_eq_map, List.flatMap_cons, List.flatMap_map, State.operandRequests, BitVec.add_zero]

/-- The opcode of a Ready state is read with no breakpoint and no sticky step to take effect (R264, R265). -/
theorem State.Ready.opcodeRead_eq {s : State} (h : s.Ready) :
    State.opcodeRead { s with eiShadow := false } =
      { s with eiShadow := false, bus := s.bus ++ s.readRequests s.pc } := by
  obtain ⟨noStep, noSticky⟩ := h.noStep
  simp only [State.opcodeRead, decide_eq_false h.noBreakpoint, noStep, noSticky, Bool.or_false]
  rfl

/-- The state in which a Ready state's iteration commits its opcode: the EI delay over, the opcode read and traced (R252,
R262). -/
def State.readyTraced (s : State) : State :=
  { s with
    eiShadow := false, bus := s.bus ++ s.readRequests s.pc
    events := s.events ++ [.info (mnemonic (s.peek s.pc)) s.pc] }

theorem State.Ready.step_of_known {s : State} (h : s.Ready) (hk : knownOpcode (s.peek s.pc) = true) :
    step s = commit (s.peek s.pc) s.readyTraced := by
  have traced : State.traced { s with eiShadow := false } = s.readyTraced := by
    rw [State.traced, h.opcodeRead_eq]
    rfl
  rw [step_starts_iteration h.running h.sched h.noInputs h.noHaltWait h.noDispatch, ← traced]
  exact iterate_of_commit hk h.noPause (.inr (by rw [h.opcodeRead_eq]; exact h.noStep.1))

/-- That commit fetches the operand bytes with pc past them, and the requests of the instruction are those of its bytes
(R64, R75, R76). -/
theorem State.Ready.afterFetch_readyTraced {s : State} (h : s.Ready) (e : Entry) :
    s.readyTraced.afterFetch e = { s with
      eiShadow := false, pc := s.pc + BitVec.ofNat 16 (e.operandCount + 1)
      events := s.events ++ [.info (mnemonic (s.peek s.pc)) s.pc]
      bus := s.bus ++ (List.range (e.operandCount + 1)).flatMap fun k => s.readRequests (s.pc + BitVec.ofNat 16 k) } := by
  rw [State.afterFetch_requests, ← State.readRequests_operandRequests, ← word_succ_add, ← List.append_assoc]
  simp only [State.readyTraced, h.noHaltRepeat, Bool.false_eq_true, if_false]
  rfl

theorem State.readyTraced_fetchInstr (s : State) (e : Entry) :
    s.readyTraced.fetchInstr e s.pc = (s.noteRead s.pc).fetchInstr e s.pc := by
  unfold State.fetchInstr
  simp only [State.peekNext, State.noteRead_requests]
  cases e <;> rfl

/-- A Ready state's UNKNOWN opcode ends in its DecodeError (R240, R262). -/
theorem State.Ready.step_of_unknown {s : State} (h : s.Ready) (hk : knownOpcode (s.peek s.pc) = false) :
    step s = .next (State.raiseDecodeError { s with eiShadow := false, bus := s.bus ++ s.readRequests s.pc }
      (s.peek s.pc)) := by
  rw [step_starts_iteration h.running h.sched h.noInputs h.noHaltWait h.noDispatch, ← h.opcodeRead_eq]
  exact iterate_of_unknown hk

end Sys2Proof.Machine
end

section
/-! SUPPORT. The interrupt that PollPending names and its entry: the lowest set bit, the bits that IE and IF share, and the state
that an entry leaves (60_exceptions.md R249 to R253). -/

namespace Sys2Proof.Machine

/-! ### The lowest request -/

theorem lowestIrq_lt (p : Byte) : lowestIrq p < 5 := by
  unfold lowestIrq
  split_ifs <;> decide

/-- No bit below the lowest request is set (R249). -/
theorem getLsbD_below_lowestIrq {p : Byte} {j : Nat} (hj : j < lowestIrq p) : p.getLsbD j = false := by
  unfold lowestIrq at hj
  split_ifs at hj <;> interval_cases j <;> simp_all

/-- Where one of the five bits is set, so is the lowest request's (R249). -/
theorem getLsbD_lowestIrq {p : Byte} {k : Nat} (hk : k < 5) (hp : p.getLsbD k = true) : p.getLsbD (lowestIrq p) = true := by
  unfold lowestIrq
  split_ifs <;> interval_cases k <;> simp_all

/-- The bits of 4:0 that IE and IF share (R222, R249). -/
theorem State.getLsbD_pendingMask (s : State) (k : Nat) :
    s.pendingMask.getLsbD k = (s.ieReg.getLsbD k && s.ifReg.getLsbD k && decide (k < 5)) := by
  have mask : Config.irqMask.getLsbD k = decide (k < 5) := by
    by_cases hk : k < 8
    · interval_cases k <;> rfl
    · rw [BitVec.getLsbD_of_ge _ _ (by omega), eq_comm, decide_eq_false_iff_not]
      omega
  rw [State.pendingMask, BitVec.getLsbD_and, BitVec.getLsbD_and, mask]

/-- With a request pending the lowest one is set in both IE and IF (R249). -/
theorem State.getLsbD_lowestIrq {s : State} (h : s.pendingMask ≠ 0) :
    s.ieReg.getLsbD (lowestIrq s.pendingMask) = true ∧ s.ifReg.getLsbD (lowestIrq s.pendingMask) = true := by
  obtain ⟨k, hk⟩ : ∃ k, s.pendingMask.getLsbD k = true := by
    by_contra hn
    exact h (BitVec.eq_of_getLsbD_eq fun k _ => by simpa using not_exists.mp hn k)
  have hk' := s.getLsbD_pendingMask k ▸ hk
  simp only [Bool.and_eq_true, decide_eq_true_eq] at hk'
  have lowest := Machine.getLsbD_lowestIrq hk'.2 hk
  rw [State.getLsbD_pendingMask] at lowest
  simp only [Bool.and_eq_true, decide_eq_true_eq] at lowest
  exact lowest.1

/-- No lower index is set in both (R249). -/
theorem State.getLsbD_below_lowestIrq (s : State) {j : Nat} (hj : j < lowestIrq s.pendingMask) :
    (s.ieReg.getLsbD j && s.ifReg.getLsbD j) = false := by
  have below := Machine.getLsbD_below_lowestIrq hj
  have hlt : j < 5 := hj.trans (lowestIrq_lt _)
  rwa [State.getLsbD_pendingMask, decide_eq_true hlt, Bool.and_true] at below

theorem State.pollPending_eq_none (s : State) : s.pollPending = none ↔ s.ime = false ∨ s.pendingMask = 0 := by
  rw [State.pollPending]
  cases s.ime <;> simp

/-! ### Interrupt entry -/

/-- The request k acknowledged: its bit of IF and IME cleared (R250). -/
def State.acknowledged (s : State) (k : Nat) : State := { s with ifReg := s.ifReg &&& ~~~(1#8 <<< k), ime := false }

/-- The entry of interrupt k before its Snapshot: acknowledged, pc pushed, pc at the vector (R250). -/
def State.entered (s : State) (k : Nat) : State := { (s.acknowledged k).push16 s.pc with pc := irqVector k }

/-- The vector gives its index back (R245, R251). -/
theorem index_of_irqVector {k : Nat} (hk : k < 5) : ((irqVector k).toNat - 0x0040) / 8 = k := by
  rw [irqVector, BitVec.toNat_ofNat]
  omega

theorem State.enterInterrupt_irqVector (s : State) {k : Nat} (hk : k < 5) :
    s.enterInterrupt (irqVector k) = (s.entered k).emit (.snapshot (s.entered k).snapshot) := by
  unfold State.enterInterrupt
  rw [index_of_irqVector hk]
  rfl

/-- An entry clears bit k of IF alone (R250). -/
theorem State.getLsbD_acknowledged_ifReg (s : State) {k j : Nat} (hk : k < 5) (hj : j < 8) :
    (s.acknowledged k).ifReg.getLsbD j = (s.ifReg.getLsbD j && decide (j ≠ k)) := by
  have toNat : (BitVec.ofNat 3 k).toNat = k := by rw [BitVec.toNat_ofNat]; omega
  have cleared : (s.acknowledged k).ifReg = clearBit (BitVec.ofNat 3 k) s.ifReg := by rw [clearBit, toNat]; rfl
  rw [cleared, getLsbD_clearBit _ _ hj, toNat]
  by_cases h : j = k <;> simp [h]

/-- An entry stores the old pc where a push stores it, and nothing else (R250). -/
theorem State.entered_stores (s : State) (k : Nat) :
    StoresWord { s with ifReg := (s.acknowledged k).ifReg } (s.entered k) (s.sp - 2) s.pc :=
  ((s.acknowledged k).push16_stores s.pc).congr rfl rfl rfl rfl rfl rfl rfl rfl (State.push16_params _ _)

/-- Everything an entry changes (R250). -/
theorem State.entered_eq (s : State) (k : Nat) :
    s.entered k = { s with
      ime := false, sp := s.sp - 2, pc := irqVector k, mem := (s.entered k).mem, ieReg := (s.entered k).ieReg
      ifReg := (s.entered k).ifReg, bus := s.bus ++ s.shortRequests (s.sp - 2) s.pc } := by
  unfold State.entered
  rw [State.push16_requests]
  rfl

theorem State.dispatch_of_pending {s : State} {v : Word} (hd : s.params.dispatch = .sm83) (he : s.eiShadow = false)
    (hp : s.pollPending = some v) : s.dispatch = s.enterInterrupt v := by
  simp [State.dispatch, hd, he, hp]

end Sys2Proof.Machine
end

section
/-! SUPPORT. The observation only grows (60_exceptions.md R275, R276, R278; 20_memory.md R63, R67): what each operation of the core,
each host call and each stage of a step appends to the events and to what reached the Memory Unit. -/

namespace Sys2Proof.Machine

/-- The state with its first batch of calls taken (R281). -/
def State.takeBatch (s : State) : State := { s with hostCalls := s.hostCalls.tail }

/-- The state with its first request to come taken (R248). -/
def State.takeIrq (s : State) : State := { s with irqs := s.irqs.tail }

/-- From s to t events and requests are appended, and the inputs to come and the parameters are as before. -/
structure Extends (s t : State) : Prop where
  events : s.events <+: t.events
  bus : s.bus <+: t.bus
  params : t.params = s.params
  hostCalls : t.hostCalls = s.hostCalls
  irqs : t.irqs = s.irqs

namespace Extends

variable {s t u : State}

theorem of_fields (he : t.events = s.events) (hb : t.bus = s.bus) (hp : t.params = s.params)
    (hc : t.hostCalls = s.hostCalls) (hi : t.irqs = s.irqs) : Extends s t :=
  ⟨he ▸ List.prefix_rfl, hb ▸ List.prefix_rfl, hp, hc, hi⟩

theorem refl (s : State) : Extends s s := of_fields rfl rfl rfl rfl rfl

theorem trans (h : Extends s t) (h' : Extends t u) : Extends s u :=
  ⟨h.events.trans h'.events, h.bus.trans h'.bus, h'.params.trans h.params, h'.hostCalls.trans h.hostCalls,
    h'.irqs.trans h.irqs⟩

theorem takeIrq (h : Extends s t) : Extends s.takeIrq t.takeIrq :=
  ⟨h.events, h.bus, h.params, h.hostCalls, congrArg List.tail h.irqs⟩

end Extends

theorem extends_emit (s : State) (e : Event) : Extends s (s.emit e) :=
  ⟨List.prefix_append _ _, List.prefix_rfl, rfl, rfl, rfl⟩

/-! ### Instructions -/

theorem noteRead_bus_prefix (s : State) (a : Word) : s.bus <+: (s.noteRead a).bus := by
  rw [State.noteRead_requests]
  exact List.prefix_append _ _

theorem noteLoc_bus_prefix (s : State) (l : Loc8) : s.bus <+: (s.noteLoc l).bus := by
  rw [State.noteLoc_requests]
  exact List.prefix_append _ _

theorem writeByte_bus_prefix (s : State) (a : Word) (v : Byte) (c : WriteCall) : s.bus <+: (s.writeByte a v c).bus := by
  rw [State.writeByte_bus]
  exact List.prefix_append _ _

theorem writeLoc_bus_prefix (s : State) (l : Loc8) (v : Byte) : s.bus <+: (s.writeLoc l v).bus := by
  cases l with
  | reg r => exact (s.writeReg_bus r v) ▸ List.prefix_rfl
  | atHl => exact writeByte_bus_prefix _ _ _ _

/-- A read of an operand and then its write (R156, R177, R191, R192). -/
theorem noteLoc_writeLoc_bus_prefix (s : State) (l : Loc8) (v : Byte) : s.bus <+: ((s.noteLoc l).writeLoc l v).bus :=
  (noteLoc_bus_prefix s l).trans (writeLoc_bus_prefix _ l v)

theorem loadAcc_bus_prefix (a : Word) (s : State) : s.bus <+: (loadAcc a s).bus :=
  noteRead_bus_prefix s a

theorem storeAcc_bus_prefix (a : Word) (s : State) : s.bus <+: (storeAcc a s).bus :=
  writeByte_bus_prefix s a _ .byte

theorem storeAccMove_bus_prefix (d : Word) (s : State) : s.bus <+: (storeAccMove d s).bus := by
  rw [storeAccMove_eq]
  exact List.prefix_append _ _

theorem push16_bus_prefix (s : State) (v : Word) : s.bus <+: (s.push16 v).bus := by
  rw [State.push16_requests]
  exact List.prefix_append _ _

theorem afterPop_bus_prefix (s : State) : s.bus <+: s.afterPop.bus := by
  rw [State.afterPop_requests, List.append_assoc]
  exact List.prefix_append _ _

/-- Every form appends its requests to those before (R63, R67). -/
theorem perform_bus_prefix (f : Form) (s : State) : s.bus <+: (perform f s).bus := by
  cases f
  case jpCond | jrCond =>
    simp only [perform, whenHolds]
    split <;> exact List.prefix_rfl
  case callCond =>
    simp only [perform, whenHolds]
    split
    · exact push16_bus_prefix s s.pc
    · exact List.prefix_rfl
  case retCond =>
    simp only [perform, whenHolds]
    split
    · exact afterPop_bus_prefix s
    · exact List.prefix_rfl
  case call | rst => exact push16_bus_prefix s s.pc
  case push => exact push16_bus_prefix s _
  case ret | reti => exact afterPop_bus_prefix s
  case pop rr => exact (State.writeStackPair_bus s.afterPop rr s.popValue) ▸ afterPop_bus_prefix s
  case stSpAbs nn =>
    simp only [perform, stSpAbs]
    rw [State.writeShort_requests]
    exact List.prefix_append _ _
  case stAccPtr | stAccAbs | stAccHigh | stAccHighC => exact storeAcc_bus_prefix _ s
  case stAccHlInc | stAccHlDec => exact storeAccMove_bus_prefix _ s
  case ldMemReg src => exact writeByte_bus_prefix s s.hl (s.readReg src) .byte
  case ldMemImm n => exact writeByte_bus_prefix s s.hl n .byte
  case ldRegMem dst => exact (State.writeReg_bus (s.noteRead s.hl) dst _) ▸ noteRead_bus_prefix s s.hl
  case ldAccPtr | ldAccAbs | ldAccHigh | ldAccHighC => exact loadAcc_bus_prefix _ s
  case ldAccHlInc | ldAccHlDec => exact loadAcc_bus_prefix s.hl s
  case aluReg | bit => exact noteLoc_bus_prefix s _
  case inc8 | dec8 | shift | res | set => exact noteLoc_writeLoc_bus_prefix s _ _
  case prefixCb n =>
    simp only [perform, performCb]
    split
    case h_2 => exact noteLoc_bus_prefix s _
    all_goals exact noteLoc_writeLoc_bus_prefix s _ _
  case halt =>
    simp only [perform, haltCore]
    split <;> exact List.prefix_rfl
  case unknown => simp [perform, State.raiseDecodeError]
  case ldRegReg dst src => exact (s.writeReg_bus dst _) ▸ List.prefix_rfl
  case ldRegImm dst n => exact (s.writeReg_bus dst n) ▸ List.prefix_rfl
  case ldPairImm rr nn => exact (s.writePair_bus rr nn) ▸ List.prefix_rfl
  case inc16 rr | dec16 rr => exact (s.writePair_bus rr _) ▸ List.prefix_rfl
  all_goals exact List.prefix_rfl

/-- Every form extends the observation: an UNKNOWN row by the events of its DecodeError, any other by requests alone. -/
theorem extends_perform (f : Form) (s : State) : Extends s (perform f s) := by
  have kept := perform_kept f s
  refine ⟨?_, perform_bus_prefix f s, kept.params, kept.hc, kept.irqs⟩
  by_cases hf : ∃ op, f = .unknown op
  · obtain ⟨op, rfl⟩ := hf
    simp [perform, State.raiseDecodeError, State.emit]
  · obtain ⟨-, -, events, -⟩ := kept.rest (not_exists.mp hf)
    rw [events]

/-! ### The stages of a step -/

theorem extends_committed (op : Byte) (s : State) : Extends s (committed op s) := by
  have fetched : Extends s (s.afterFetch (primary op)) := by
    rw [State.afterFetch_requests]
    exact ⟨List.prefix_rfl, List.prefix_append _ _, rfl, rfl, rfl⟩
  unfold committed
  split
  · exact fetched.trans (extends_emit _ _)
  · exact fetched.trans (extends_perform _ _)

theorem extends_of_commit {op : Byte} {s t : State} (h : commit op s = .next t) : Extends s t := by
  rw [commit_eq] at h
  cases h
  exact (extends_committed op s).trans (extends_emit _ _)

theorem extends_of_debugStage {op : Byte} {s t : State} (h : debugStage op s = .next t) : Extends s t := by
  rw [debugStage_eq] at h
  split at h
  · cases h
    exact .of_fields rfl rfl rfl rfl rfl
  · exact extends_of_commit h

theorem extends_opcodeRead (s : State) : Extends s s.opcodeRead :=
  ⟨List.prefix_rfl, List.prefix_append _ _, rfl, rfl, rfl⟩

theorem extends_of_iterate {s t : State} (h : iterate s = .next t) : Extends s t := by
  have traced : Extends s s.traced := (extends_opcodeRead s).trans (extends_emit _ _)
  rw [iterate_eq] at h
  split_ifs at h
  · cases h
    exact (extends_opcodeRead s).trans (extends_perform (.unknown _) _)
  · cases h
    exact traced.trans (.of_fields rfl rfl rfl rfl rfl)
  · cases h
    exact traced.trans (.of_fields rfl rfl rfl rfl rfl)
  · exact traced.trans (extends_of_commit h)

theorem extends_exitLoop (s : State) : Extends s s.exitLoop := by
  unfold State.exitLoop
  split
  · exact .refl s
  · exact .of_fields rfl rfl rfl rfl rfl

theorem extends_push16 (s : State) (v : Word) : Extends s (s.push16 v) :=
  ⟨s.push16_events v ▸ List.prefix_rfl, push16_bus_prefix s v, s.push16_params v, s.push16_hostCalls v, s.push16_irqs v⟩

/-- An entry extends the observation by its push and its Snapshot (R250). -/
theorem extends_enterInterrupt (s : State) (t : Word) : Extends s (s.enterInterrupt t) := by
  have entered : ∀ irq : Byte, Extends s { State.push16 { s with ifReg := irq, ime := false } s.pc with pc := t } :=
    fun irq => { extends_push16 { s with ifReg := irq, ime := false } s.pc with }
  exact (entered _).trans (extends_emit _ _)

theorem extends_leaveBoundary (s : State) : Extends s s.leaveBoundary := by
  have dispatched : Extends s s.dispatch := by
    obtain h | ⟨t, h⟩ := s.dispatch_cases <;> rw [h]
    · exact .refl s
    · exact extends_enterInterrupt s t
  exact dispatched.trans (.of_fields rfl rfl rfl rfl rfl)

/-- A sampling takes the first request to come (R248). -/
theorem extends_sampleIrq_wake (s : State) : Extends s.takeIrq s.sampleIrq.wake := by
  rw [State.wake_eq]
  unfold State.sampleIrq
  split
  · rename_i h
    exact .of_fields rfl rfl rfl rfl (by simp [State.takeIrq, h])
  · rename_i h
    exact .of_fields rfl rfl rfl rfl (by simp [State.takeIrq, h])

/-- A boundary samples where the run goes on, and takes no request where it ends (R248, R263, R278). -/
theorem extends_of_boundary {s t : State} (h : boundary s = .next t) :
    Extends s t ∨ Extends s.takeIrq t := by
  cases hr : s.running with
  | false =>
    rw [boundary_of_not_running hr] at h
    cases h
    exact .inl (extends_exitLoop s)
  | true =>
    rw [boundary_of_running hr] at h
    refine .inr ((extends_sampleIrq_wake s).trans ?_)
    split at h
    · cases h
      exact .refl _
    · exact (extends_leaveBoundary _).trans (extends_of_iterate h)

theorem extends_of_pausePoll {op : Byte} {s t : State} (h : pausePoll op s = .next t) : Extends s t := by
  by_cases hs : ∃ o, s.sched = .paused o
  · obtain ⟨o, hs⟩ := hs
    rw [pausePoll_of_paused hs] at h
    split_ifs at h
    · cases h
      exact .refl s
    · have resumed : Extends s { s with sched := .running } := .of_fields rfl rfl rfl rfl rfl
      exact resumed.trans (extends_of_debugStage h)
    · cases h
      exact extends_exitLoop s
  · rw [pausePoll_of_ended (not_exists.mp hs)] at h
    cases h
    exact .refl s

theorem extends_of_stepPoll {op : Byte} {s t : State} (h : stepPoll op s = .next t) : Extends s t := by
  by_cases hs : ∃ o, s.sched = .stepping o
  · obtain ⟨o, hs⟩ := hs
    rw [stepPoll_of_stepping hs] at h
    split_ifs at h
    · have advanced : Extends s s.advanced := ⟨List.prefix_append _ _, List.prefix_rfl, rfl, rfl, rfl⟩
      exact advanced.trans (extends_of_commit h)
    · cases h
      exact .refl s
    · cases h
      exact extends_exitLoop s
  · rw [stepPoll_of_ended (not_exists.mp hs)] at h
    cases h
    exact .refl s

/-! ### Host calls -/

theorem extends_applyCall (s : State) (c : HostCall) : Extends s (s.applyCall c) := by
  cases c with
  | reset | addBreakpoint | removeBreakpoint => exact .of_fields rfl rfl rfl rfl rfl
  | start d =>
    rw [State.applyCall, State.start_eq]
    split <;> exact .of_fields rfl rfl rfl rfl rfl
  | load a bytes =>
    simp only [State.applyCall, State.load]
    split
    · exact .refl s
    · exact ⟨List.prefix_rfl, List.prefix_append _ _, rfl, rfl, rfl⟩
  | stop | pause | resume => simp only [State.applyCall]; split <;> exact .of_fields rfl rfl rfl rfl rfl
  | singleStep => simp only [State.applyCall, State.singleStep]; split <;> exact .of_fields rfl rfl rfl rfl rfl
  | setStickyStep b =>
    simp only [State.applyCall, State.setStickyStep]
    split <;> (try split) <;> exact .of_fields rfl rfl rfl rfl rfl

/-- An observation takes the first batch of calls (R281). -/
theorem extends_observe (s : State) : Extends s.takeBatch s.observe :=
  State.observe_induction (.refl _) fun u c h => h.trans (extends_applyCall u c)

/-- A step takes one batch of calls and at most one request (R248, R281). -/
theorem extends_of_step {s t : State} (h : step s = .next t) :
    Extends s.takeBatch t ∨ Extends s.takeBatch.takeIrq t := by
  have observed := extends_observe s
  cases hs : s.sched with
  | running =>
    rw [step_of_running hs] at h
    exact (extends_of_boundary h).imp observed.trans observed.takeIrq.trans
  | paused op =>
    rw [step_of_paused hs] at h
    exact .inl (observed.trans (extends_of_pausePoll h))
  | stepping op =>
    rw [step_of_stepping hs] at h
    exact .inl (observed.trans (extends_of_stepPoll h))
  | idle | halted | stopped =>
    rw [step_outside (by simp [State.inRun, hs])] at h
    cases h
    exact .inl observed

end Sys2Proof.Machine
end

section
/-! SUPPORT. The statements of 60_exceptions.md, settled. -/

namespace Sys2Proof.Machine

/-- Settles O48: the calls of the batch are applied one by one, and each scheduler state then has its own transitions. -/
theorem schedulerTransitions : Obligations.SchedulerTransitions := by
  unfold Obligations.SchedulerTransitions
  rintro s t u hinv hstep rfl
  refine ⟨⟨State.observe_of_noCalls, fun _ _ => State.observe_cons⟩, fun v c => ⟨?reset, ?start, ?other⟩, fun hout => ?outside,
    fun hs hb => ?halted, fun hs => ⟨fun hr => ?exit, fun hr hh => ?haltWait, fun hr hh b op hb hop => ?iteration⟩,
    fun op hs => ?paused, fun op hs => ?stepping⟩
  case reset => rintro rfl; rfl
  case start => rintro d rfl; exact v.sched_applyCall_start d
  case other => exact v.sched_applyCall_other
  case outside =>
    rw [step_outside hout] at hstep
    cases hstep
    rfl
  case halted =>
    rw [step_outside (by simp [State.inRun, hs])] at hstep
    cases hstep
    exact State.halted_observe hs hb
  case exit =>
    rw [step_of_running hs, boundary_of_not_running hr] at hstep
    cases hstep
    exact State.sched_exitLoop _
  case haltWait =>
    rw [step_of_running hs, boundary_of_running hr, if_pos hh] at hstep
    cases hstep
    rw [State.wake_eq, State.sampleIrq_eq]
    exact hinv.sched_observe_running hs hr
  case iteration =>
    rw [step_of_running hs] at hstep
    exact boundary_transitions (hinv.sched_observe_running hs hr) hr hh hstep hb hop
  case paused =>
    rw [step_of_paused hs] at hstep
    refine ⟨fun hne => ?_, fun hw => pausePoll_transitions (hinv.waiting op (.inl hs)).2 hw hstep⟩
    have left := s.sched_observe.resolve_left (hs ▸ hne)
    exact ⟨pausePoll_ended left hstep, left⟩
  case stepping =>
    rw [step_of_stepping hs] at hstep
    refine ⟨fun hne => ?_, fun hw => stepPoll_transitions (hinv.waiting op (.inr hs)).2 hw hstep⟩
    have left := s.sched_observe.resolve_left (hs ▸ hne)
    exact ⟨stepPoll_ended left hstep, left⟩

/-- Settles O43: each part of a step has one answer, and an instruction's is its form's effect. -/
theorem everyStepAnswersANextState : Obligations.EveryStepAnswersANextState := by
  unfold Obligations.EveryStepAnswersANextState
  exact fun s => ⟨step_next s, fun i => ⟨_, exec_eq_perform i s⟩⟩

/-- Settles O49: the iteration's checks in their order, from the state that a breakpoint and the sticky step have set. -/
theorem breakpointSuspendsBeforeExecution : Obligations.BreakpointSuspendsBeforeExecution := by
  unfold Obligations.BreakpointSuspendsBeforeExecution
  refine ⟨fun s hr hs hin hh hp hd hb hk => ?suspends, ?order⟩
  case suspends =>
    have waits := iterate_of_stepping (s := { s with eiShadow := false }) hk hp (by simp [State.opcodeRead, hb])
      (by simp [State.opcodeRead, hb])
    rw [step_starts_iteration hr hs hin hh hd, waits]
    simp only [State.traced, State.opcodeRead, hb, decide_true, Bool.or_true]
    rfl
  case order =>
    rintro s u v op hit rfl rfl rfl rfl
    refine ⟨fun hk => (iterate_of_unknown hk).trans ?_, fun hk hp => iterate_of_paused hk hp,
      fun hk hp hd ha => iterate_of_stepping hk hp hd ha, fun hk hp hn => iterate_of_commit hk hp hn⟩
    simp [State.raiseDecodeError, State.emit, State.clearSession, State.opcodeRead]

/-- Settles O50: a wait holds by its own bit, a Stop ends the run wherever it stands, and each wait's call lets it go on. -/
theorem waitsHoldUntilTheirCall : Obligations.WaitsHoldUntilTheirCall := by
  unfold Obligations.WaitsHoldUntilTheirCall
  intro s hr
  refine ⟨fun hw => ⟨fun hin => ?holds, fun later hc => step_of_stop ?inRun hc⟩, fun op later hs hc => ?singleStep,
    fun op later hs hc => ?resume⟩
  case holds =>
    obtain ⟨op, hs, hp⟩ | ⟨op, hs, ha⟩ | ⟨hs, hh, hp⟩ := hw
    · rw [step_of_paused hs, State.observe_noInputs hin, pausePoll_of_paused hs, hr, hp]
      rfl
    · rw [step_of_stepping hs, State.observe_noInputs hin, stepPoll_of_stepping hs, hr, ha]
      rfl
    · rw [step_of_running hs, State.observe_noInputs hin, boundary_of_running hr,
        State.sampleIrq_wake_of_haltWait hin.2 hp, if_pos hh]
  case inRun =>
    obtain ⟨op, hs, -⟩ | ⟨op, hs, -⟩ | ⟨hs, -⟩ := hw <;> simp [State.inRun, hs]
  case singleStep =>
    have hu := (State.observe_single hc).trans (State.applyCall_singleStep_of_stepping hs)
    rw [step_of_stepping hs, stepPoll_of_stepping (by rw [hu]; exact hs), hu]
    exact (if_pos hr).trans (if_pos rfl)
  case resume =>
    have hu := (State.observe_single hc).trans (State.applyCall_resume (by simp [State.inRun, hs]))
    rw [step_of_paused hs, pausePoll_of_paused (by rw [hu]; exact hs), hu]
    exact (if_pos hr).trans ((if_neg Bool.false_ne_true).trans (debugStage_eq op _))

/-- Settles O51: each call changes its own fields where the run allows it, and the set and the load are lists read back. -/
theorem startBeginsARunOnlyOutsideOne : Obligations.StartBeginsARunOnlyOutsideOne := by
  unfold Obligations.StartBeginsARunOnlyOutsideOne
  intro s d a bytes
  refine ⟨fun hs => ?starts, fun hs => ?ignoresStart, fun hout c => s.applyCall_ignored hout d, fun hin => ?inRun,
    ⟨_, rfl, rfl, ?added, fun b hb => ?addedOther⟩, ⟨_, rfl, rfl, ?removed, fun b hb => ?removedOther⟩,
    fun hin => if_pos hin, fun hout hl => ?load⟩
  case starts =>
    rw [State.applyCall, State.start_eq, if_pos hs]
    rfl
  case ignoresStart =>
    rw [State.applyCall, State.start_eq, if_neg]
    rintro (h | h) <;> simp [State.inRun, h] at hs
  case inRun =>
    exact ⟨State.applyCall_stop hin, State.applyCall_pause hin, State.applyCall_resume hin,
      State.applyCall_setStickyStep hin true, State.applyCall_setStickyStep hin false,
      fun ⟨_, hs⟩ => State.applyCall_singleStep_of_stepping hs, State.applyCall_singleStep_of_not_stepping hin⟩
  case added | addedOther | removed | removedOther =>
    simp [State.isBreakpointEnabled, State.applyCall, mem_addBreakpoint, mem_removeBreakpoint, *]
  case load =>
    have filled : s.applyCall (.load a bytes) =
        { s with mem := placeBytes s.mem a bytes, bus := s.bus ++ [.load a bytes] } := if_neg (by simp [hout])
    rw [filled]
    exact ⟨_, rfl, rfl, fun k v => placeBytes_read bytes s.mem a hl k v, fun b => placeBytes_read_other bytes s.mem a b⟩

/-- Settles O52: the mask that is tested is the bits that IE and IF share, and the vector is that of its lowest set bit. -/
theorem pollPendingNamesTheLowestRequest : Obligations.PollPendingNamesTheLowestRequest := by
  unfold Obligations.PollPendingNamesTheLowestRequest
  intro s
  refine ⟨s.pollPending_eq_none, fun v hv => ?some, fun t hi he hf => ?alike⟩
  case some =>
    obtain ⟨hi, hp⟩ := State.pollPending_eq_some hv
    obtain rfl : irqVector (lowestIrq s.pendingMask) = v :=
      Option.some.inj ((State.pollPending_of_pending hi hp).symm.trans hv)
    obtain ⟨inIE, inIF⟩ := State.getLsbD_lowestIrq hp
    exact ⟨lowestIrq s.pendingMask, lowestIrq_lt _, rfl, inIE, inIF, fun j => s.getLsbD_below_lowestIrq⟩
  case alike => rw [State.pollPending, State.pollPending, State.pendingMask, State.pendingMask, hi, he, hf]

/-- Settles O53: an entry is the acknowledgement, a push of pc and the jump to the vector. -/
theorem dispatchTakesThePendingInterrupt : Obligations.DispatchTakesThePendingInterrupt := by
  unfold Obligations.DispatchTakesThePendingInterrupt
  intro s
  refine ⟨fun k hk hd he hp => ?entry, State.dispatch_none⟩
  obtain ⟨-, -, -, unmapped, -⟩ := s.entered_stores k
  refine ⟨(s.acknowledged k).ifReg, (s.entered k).emit (.snapshot (s.entered k).snapshot),
    fun j => s.getLsbD_acknowledged_ifReg hk,
    (State.dispatch_of_pending hd he hp).trans (s.enterInterrupt_irqVector hk), ?ime, ?sp, rfl, ?events, ?stores,
    unmapped, ?frame⟩
  case stores => exact (s.entered_stores k).congr rfl rfl rfl rfl rfl rfl rfl rfl (by rw [State.entered_eq])
  case frame =>
    conv_lhs => rw [State.entered_eq]
    rw [State.entered_eq]
    rfl
  all_goals rw [State.entered_eq]
  all_goals rfl

/-- Settles O60: every part of a step extends what has been observed, and takes no input but its own. -/
theorem observationOnlyGrows : Obligations.ObservationOnlyGrows := by
  unfold Obligations.ObservationOnlyGrows
  intro s t h
  obtain ⟨⟨events, he⟩, ⟨requests, hb⟩, hp, hc, hi⟩ | ⟨⟨events, he⟩, ⟨requests, hb⟩, hp, hc, hi⟩ := extends_of_step h
  · exact ⟨⟨events, he.symm⟩, ⟨requests, hb.symm⟩, hp, hc, .inl hi⟩
  · exact ⟨⟨events, he.symm⟩, ⟨requests, hb.symm⟩, hp, hc, .inr hi⟩

/-- Settles O42: a Ready state's iteration commits what the decoder reads, after the requests of its bytes. -/
theorem stepRunsTheDecodedInstruction : Obligations.StepRunsTheDecodedInstruction := by
  unfold Obligations.StepRunsTheDecodedInstruction
  intro s i rest hready hd
  obtain ⟨fetched, wf, length⟩ := decode_bytesAtPc hd
  refine ⟨wf, fun hk => ⟨perform i.form _, exec_eq_perform i _, ?known⟩, fun hk => ?unknown⟩
  case known =>
    rw [← s.readyTraced_fetchInstr] at fetched
    rw [hready.step_of_known hk, length, ← hready.afterFetch_readyTraced]
    exact commit_of_exec hready.implemented (fetched ▸ exec_eq_perform i _)
  case unknown =>
    rw [hready.step_of_unknown hk, exec_of_form (fetched ▸ fetchInstr_unknown hk _ _)]
    rfl

end Sys2Proof.Machine
end

section
/-! SUPPORT. The Reset sequence from any state (70_reset_and_hazards.md R291). -/

namespace Sys2Proof.Machine

/-- Of the state a flag write reads AF alone, and it changes AF alone (R26, R27). -/
theorem State.writeFlags_eq_of_af {s t : State} (h : s.af = t.af) (w : FlagWrite) :
    s.writeFlags w = { s with af := (t.writeFlags w).af } := by
  simp only [State.writeFlags, State.flag_congr h, h]
  rfl

/-- AF after Reset is its power-up value with Z cleared (R47). -/
theorem State.flagClear_z_of_powerUpAF {s : State} (h : s.af = Config.powerUpAF) :
    s.flagClear .z = { s with af := Config.resetAF } := by
  have cleared : (State.powerUp.writeFlags (.only .z false)).af = Config.resetAF := by decide
  rw [State.flagClear, State.writeFlags_eq_of_af (t := State.powerUp) h, cleared]

/-- The Reset sequence keeps memory, the observation, the inputs and the parameters, and every other field has its reset
value (R291). -/
theorem State.resetSequence_eq (s : State) :
    s.resetSequence = { State.reset with
      mem := s.mem, bus := s.bus, events := s.events, hostCalls := s.hostCalls, irqs := s.irqs, params := s.params } := by
  rw [State.resetSequence, State.flagClear_z_of_powerUpAF rfl]
  rfl

/-- Settles O45: what a Reset leaves is given by the fields that it keeps, and a second Reset keeps the same. -/
theorem resetSequenceRestoresEverything : Obligations.ResetSequenceRestoresEverything := by
  unfold Obligations.ResetSequenceRestoresEverything
  refine fun s => ⟨s.resetSequence_eq, ?twice⟩
  case twice =>
    rw [State.applyCall, State.applyCall, State.resetSequence_eq s.resetSequence, State.resetSequence_eq s]

end Sys2Proof.Machine
end
